-- ==== Sys2Proof/Word.lean ====
section
/-! DEFINITION. The machine's bit-vector types (00_scope.md R8: every register value is an unsigned number of a stated width). -/

namespace Sys2Proof

/-- A 32-bit register or bus value. -/
abbrev Word := BitVec 32

/-- A 16-bit value: the CRC accumulator, a sequence number. -/
abbrev Half := BitVec 16

/-- One byte of a byte string (00_scope.md R9). -/
abbrev Byte := BitVec 8

end Sys2Proof
end

