-- ==== Sys2Proof/Config.lean ====
section
/-! DEFINITION. The implementation parameters (00_scope.md R7, 20_memory.md R50). They are fixed for a machine. The model
carries one value of them in State as plain data that no step changes, so that a statement over every state holds for every
implementation (log 4). The spec leaves no value undefined, so there is no free value here (10_state.md R49). -/

namespace Sys2Proof

/-- The parameters of 00_scope.md R7 and the base address of 20_memory.md R50. -/
structure Params where
  /-- `RX_CAP`: capacity of the RX buffer in bytes. -/
  rxCap : Nat
  /-- `TX_CAP`: capacity of the TX buffer in bytes. -/
  txCap : Nat
  /-- `HEX_LOWER_OK`: the hex decoder accepts `a` to `f` (R12). -/
  hexLowerOk : Bool
  /-- `STRICT_CONTROL`: response parsing requires the control byte `!` (R194). -/
  strictControl : Bool
  /-- `FPE_BASE`: the bus address of offset 0x000 of the register space (R50). -/
  base : Nat
deriving DecidableEq, Repr

/-- The defaults of R7. The base address has no default in the spec: 0 is a DESIGN CHOICE (log 5, unsafe). -/
def Params.default : Params :=
  { rxCap := 256, txCap := 64, hexLowerOk := true, strictControl := true, base := 0 }

/-- The legal ranges of R7. -/
def Params.legal (p : Params) : Bool :=
  decide (32 ≤ p.rxCap) && decide (p.rxCap ≤ 256) && decide (28 ≤ p.txCap) && decide (p.txCap ≤ 255)

end Sys2Proof
end

