-- ==== Sys2Proof/Syntax.lean ====
section
/-! DEFINITION. The instructions: one constructor per row of spec/opcode_table.json, that is the 26 commands of
30_encoding.md R73 and the 5 bus operations of 45_control.md R211 to R215. Also the host's accesses and events that carry
them to the block. -/

namespace Sys2Proof

/-- The six read-write operand registers (10_state.md R21 to R26). -/
inductive OperandReg where
  | opa | addr | seq | param | inst | value
deriving DecidableEq, Repr

/-- The selector of TX_CTL (30_encoding.md R71, R76): 0 is `#` (host), 1 is `!` (device). -/
inductive ControlSel where
  | host | device
deriving DecidableEq, Repr

/-- A command token (40_codec.md R104): id 0 is `?VR`, id 1 is `VS`. -/
inductive Token where
  | vr | vs
deriving DecidableEq, Repr

/-- The instructions, in the order of spec/opcode_table.json. -/
inductive Instr where
  | nop
  | crcClr
  | crcByte
  | crcTx
  | crcFrm (n : Byte)
  | txClr
  | txCtl (sel : ControlSel)
  | encU8
  | encU16
  | encF32
  | encTok (tok : Token)
  | encCrc
  | encTerm
  | asmVr
  | asmVs
  | rxPop
  | rxFlush
  | rxClose
  | rxOpen
  | rxTimeout
  | decU8 (off : Byte)
  | decU16 (off : Byte)
  | decF32 (off : Byte)
  | decTok (off : Byte)
  | rspF32
  | rspU16
  | busCmdWrite (w : Word)
  | busOperandWrite (r : OperandReg) (v : Word)
  | busStatusWrite (v : Word)
  | busRead (off : Nat)
  | busRxdataWrite (w : Word)
deriving DecidableEq, Repr

/-- One host bus access: its byte address on the bus, its width in bytes and, for a write, its value (R13, R51). -/
inductive Access where
  | read (addr width : Nat)
  | write (addr width : Nat) (value : Word)
deriving DecidableEq, Repr

/-- What the outside world can do to the block: a bus access (R216), or a pulse of the reset input (R260, log 8). -/
inductive HostEvent where
  | access (a : Access)
  | reset
deriving DecidableEq, Repr

/-- What stands at an aligned offset of the register space (20_memory.md R55). -/
inductive Target where
  | cmd
  | status
  | operand (r : OperandReg)
  | res
  | crc
  | rctl
  | raddr
  | rseq
  | txlen
  | rxlen
  | flen
  | rxdata
  | cfg
  | txWindow (k : Nat)
  | frameWindow (k : Nat)
  | unmapped
deriving DecidableEq, Repr

end Sys2Proof
end

