-- ==== Sys2Proof/WellFormed.lean ====
section
/-! DEFINITION. The checks on instructions that their types do not make: the offset of a bus read must lie in the register
space (20_memory.md R50) and be a multiple of 4 (R51). -/

namespace Sys2Proof

/-- An aligned offset of the register space (R50, R51). -/
def offsetOk (off : Nat) : Bool := decide (off < 0x1000) && decide (off % 4 = 0)

/-- Well-formed instructions. -/
def Instr.wellFormed : Instr → Bool
  | .busRead off => offsetOk off
  | .nop | .crcClr | .crcByte | .crcTx | .crcFrm _ | .txClr | .txCtl _ | .encU8 | .encU16 | .encF32 | .encTok _
  | .encCrc | .encTerm | .asmVr | .asmVs | .rxPop | .rxFlush | .rxClose | .rxOpen | .rxTimeout | .decU8 _ | .decU16 _
  | .decF32 _ | .decTok _ | .rspF32 | .rspU16 | .busCmdWrite _ | .busOperandWrite _ _ | .busStatusWrite _
  | .busRxdataWrite _ => true

end Sys2Proof
end

