-- ==== Sys2Proof/Decode.lean ====
section
/-! DEFINITION. The command-word decoder and encoder (30_encoding.md R70 to R75), and the decoder and encoder of host
accesses (20_memory.md R51, R52, R55). Both decoders are total and reject by name. -/

namespace Sys2Proof

/-- Why a 32-bit word is no legal command (R72, R75). All of them end in IllegalCommand (R235). -/
inductive WordReject where
  | zNonZero
  | reservedOpcode
  | fieldNonZero
  | selOutOfRange
deriving DecidableEq, Repr

/-- Why an access has no step: it is not the block's (R50), or not an aligned 32-bit access (R51). -/
inductive AccessReject where
  | outside
  | badWidth
  | unaligned
deriving DecidableEq, Repr

/-- What a defined access asks of the block: a bus operation, or a write that has no effect (R52, log 9). -/
inductive BusStep where
  | run (i : Instr)
  | noEffect
deriving DecidableEq, Repr

/-! ### Fields of a command word (R70) -/

def fieldOp (w : Word) : Byte := w.extractLsb' 0 8

def fieldF (w : Word) : Byte := w.extractLsb' 8 8

def fieldZ (w : Word) : Half := w.extractLsb' 16 16

/-- Field kind `none` of R71: F must be 0. -/
def noField (f : Byte) (i : Instr) : Except WordReject Instr :=
  if f = 0 then .ok i else .error .fieldNonZero

/-- Field kind `sel` of R71: 0 gives `a`, 1 gives `b`, every other value is illegal. -/
def selField (f : Byte) (a b : Instr) : Except WordReject Instr :=
  if f = 0 then .ok a else if f = 1 then .ok b else .error .selOutOfRange

/-- The command of an opcode and its field F (R71, R73). -/
def decodeOp (op f : Byte) : Except WordReject Instr :=
  match op.toNat with
  | 0x00 => noField f .nop
  | 0x01 => noField f .crcClr
  | 0x02 => noField f .crcByte
  | 0x03 => noField f .crcTx
  | 0x04 => .ok (.crcFrm f)
  | 0x10 => noField f .txClr
  | 0x11 => selField f (.txCtl .host) (.txCtl .device)
  | 0x12 => noField f .encU8
  | 0x13 => noField f .encU16
  | 0x14 => noField f .encF32
  | 0x15 => selField f (.encTok .vr) (.encTok .vs)
  | 0x16 => noField f .encCrc
  | 0x17 => noField f .encTerm
  | 0x18 => noField f .asmVr
  | 0x19 => noField f .asmVs
  | 0x20 => noField f .rxPop
  | 0x21 => noField f .rxFlush
  | 0x22 => noField f .rxClose
  | 0x23 => noField f .rxOpen
  | 0x24 => noField f .rxTimeout
  | 0x30 => .ok (.decU8 f)
  | 0x31 => .ok (.decU16 f)
  | 0x32 => .ok (.decF32 f)
  | 0x33 => .ok (.decTok f)
  | 0x34 => noField f .rspF32
  | 0x35 => noField f .rspU16
  | _ => .error .reservedOpcode

/-- Command decoding (R72): a legal word is its command, any other is rejected. -/
def decodeCommand (w : Word) : Except WordReject Instr :=
  if fieldZ w = 0 then decodeOp (fieldOp w) (fieldF w) else .error .zNonZero

/-- The word of a command: `OP | (F << 8)` (R74). -/
def commandWord (op f : Byte) : Word := op.setWidth 32 ||| (f.setWidth 32 <<< 8)

def ControlSel.field : ControlSel → Byte
  | .host => 0
  | .device => 1

def Token.field : Token → Byte
  | .vr => 0
  | .vs => 1

/-- The command word of an instruction (R73, R74); a bus operation has none. -/
def encodeCommand : Instr → Option Word
  | .nop => some (commandWord 0x00 0)
  | .crcClr => some (commandWord 0x01 0)
  | .crcByte => some (commandWord 0x02 0)
  | .crcTx => some (commandWord 0x03 0)
  | .crcFrm n => some (commandWord 0x04 n)
  | .txClr => some (commandWord 0x10 0)
  | .txCtl sel => some (commandWord 0x11 sel.field)
  | .encU8 => some (commandWord 0x12 0)
  | .encU16 => some (commandWord 0x13 0)
  | .encF32 => some (commandWord 0x14 0)
  | .encTok tok => some (commandWord 0x15 tok.field)
  | .encCrc => some (commandWord 0x16 0)
  | .encTerm => some (commandWord 0x17 0)
  | .asmVr => some (commandWord 0x18 0)
  | .asmVs => some (commandWord 0x19 0)
  | .rxPop => some (commandWord 0x20 0)
  | .rxFlush => some (commandWord 0x21 0)
  | .rxClose => some (commandWord 0x22 0)
  | .rxOpen => some (commandWord 0x23 0)
  | .rxTimeout => some (commandWord 0x24 0)
  | .decU8 off => some (commandWord 0x30 off)
  | .decU16 off => some (commandWord 0x31 off)
  | .decF32 off => some (commandWord 0x32 off)
  | .decTok off => some (commandWord 0x33 off)
  | .rspF32 => some (commandWord 0x34 0)
  | .rspU16 => some (commandWord 0x35 0)
  | .busCmdWrite _ | .busOperandWrite _ _ | .busStatusWrite _ | .busRead _ | .busRxdataWrite _ => none

/-! ### Host accesses -/

/-- Bytes of register space from the base (R50: offsets 0x000 to 0xFFF). -/
def spaceSize : Nat := 0x1000

/-- The offset of CMD (R55). -/
def cmdOffset : Nat := 0x000

/-- The offset of STATUS (R55). -/
def statusOffset : Nat := 0x004

/-- The offset of RXDATA (R55). -/
def rxdataOffset : Nat := 0x040

/-- The offsets of the operand registers (R55). -/
def OperandReg.offset : OperandReg → Nat
  | .opa => 0x008
  | .addr => 0x00C
  | .seq => 0x010
  | .param => 0x014
  | .inst => 0x018
  | .value => 0x01C

/-- The register map (R55, R57, R58). -/
def targetAt (off : Nat) : Target :=
  match off with
  | 0x000 => .cmd
  | 0x004 => .status
  | 0x008 => .operand .opa
  | 0x00C => .operand .addr
  | 0x010 => .operand .seq
  | 0x014 => .operand .param
  | 0x018 => .operand .inst
  | 0x01C => .operand .value
  | 0x020 => .res
  | 0x024 => .crc
  | 0x028 => .rctl
  | 0x02C => .raddr
  | 0x030 => .rseq
  | 0x034 => .txlen
  | 0x038 => .rxlen
  | 0x03C => .flen
  | 0x040 => .rxdata
  | 0x044 => .cfg
  | n =>
    if 0x100 ≤ n ∧ n < 0x200 then .txWindow ((n - 0x100) / 4)
    else if 0x200 ≤ n ∧ n < 0x300 then .frameWindow ((n - 0x200) / 4)
    else .unmapped

/-- The offset of an access, or why it has no step (R50, R51; the order of the checks is log 6's). -/
def checkAccess (base addr width : Nat) : Except AccessReject Nat :=
  if addr < base ∨ base + spaceSize ≤ addr then .error .outside
  else if width ≠ 4 then .error .badWidth
  else if (addr - base) % 4 ≠ 0 then .error .unaligned
  else .ok (addr - base)

/-- What a write of `v` asks of the block (R52, R53, R211 to R213, R215). -/
def writeStep (t : Target) (v : Word) : BusStep :=
  match t with
  | .cmd => .run (.busCmdWrite v)
  | .status => .run (.busStatusWrite v)
  | .operand r => .run (.busOperandWrite r v)
  | .rxdata => .run (.busRxdataWrite v)
  | .res | .crc | .rctl | .raddr | .rseq | .txlen | .rxlen | .flen | .cfg | .txWindow _ | .frameWindow _
  | .unmapped => .noEffect

/-- What a host access asks of the block (R216). -/
def decodeAccess (base : Nat) : Access → Except AccessReject BusStep
  | .read addr width =>
    match checkAccess base addr width with
    | .error e => .error e
    | .ok off => .ok (.run (.busRead off))
  | .write addr width v =>
    match checkAccess base addr width with
    | .error e => .error e
    | .ok off => .ok (writeStep (targetAt off) v)

/-- The host access of a bus operation; a command is no bus operation. -/
def encodeBus (base : Nat) : Instr → Option Access
  | .busCmdWrite w => some (.write (base + cmdOffset) 4 w)
  | .busOperandWrite r v => some (.write (base + r.offset) 4 v)
  | .busStatusWrite v => some (.write (base + statusOffset) 4 v)
  | .busRead off => some (.read (base + off) 4)
  | .busRxdataWrite w => some (.write (base + rxdataOffset) 4 w)
  | .nop | .crcClr | .crcByte | .crcTx | .crcFrm _ | .txClr | .txCtl _ | .encU8 | .encU16 | .encF32 | .encTok _
  | .encCrc | .encTerm | .asmVr | .asmVs | .rxPop | .rxFlush | .rxClose | .rxOpen | .rxTimeout | .decU8 _ | .decU16 _
  | .decF32 _ | .decTok _ | .rspF32 | .rspU16 => none

/-- The host access that performs an instruction: a command's word written to CMD, or the bus operation itself. -/
def encode (base : Nat) (i : Instr) : Option Access :=
  match encodeCommand i with
  | some w => some (.write (base + cmdOffset) 4 w)
  | none => encodeBus base i

/-! ### Words numbered as spec/opcode_table.json numbers them -/

/-- The 32-bit command word whose low `nbits` bits are those of `w` and whose other bits are 0. -/
def tableWord (nbits w : Nat) : Word := BitVec.ofNat 32 (w % 2 ^ nbits)

/-- The instruction the decoder reads from a word of the opcode table; a command word has 32 bits (R70). -/
def decodeTableWord (nbits w : Nat) : Option Instr :=
  if nbits ≤ 32 then
    match decodeCommand (tableWord nbits w) with
    | .ok i => some i
    | .error _ => none
  else none

end Sys2Proof
end

