-- ==== Sys2Proof/Machine/State.lean ====
section
/-! DEFINITION. The state (10_state.md R20), its reset value (70_reset_and_hazards.md R260), and why a step can stop. -/

namespace Sys2Proof.Machine

/-- The machine's state. The fields from `opa` to `frame` are exactly the state of R20, under the spec's names. The last
three are the model's own: the implementation's parameters (log 4), the host events not yet taken, oldest first (log 1),
and the value the last completed read returned to the host (log 3). -/
structure State where
  /-- OPA (R21). -/
  opa : Word
  /-- ADDR (R22). -/
  addr : Word
  /-- SEQ (R23). -/
  seq : Word
  /-- PARAM (R24). -/
  param : Word
  /-- INST (R25). -/
  inst : Word
  /-- VALUE (R26). -/
  value : Word
  /-- RES (R27). -/
  res : Word
  /-- CRC (R28). -/
  crc : Half
  /-- RCTL (R29). -/
  rctl : Byte
  /-- RADDR (R30). -/
  raddr : Byte
  /-- RSEQ (R31). -/
  rseq : Half
  /-- STATUS.ERR (R39). -/
  err : BitVec 4
  /-- STATUS.ERRS (R40). -/
  errs : Bool
  /-- STATUS.RXOVF (R42). -/
  rxovf : Bool
  /-- STATUS.CLOSED (R43). -/
  closed : Bool
  /-- STATUS.FVALID (R44). -/
  fvalid : Bool
  /-- STATUS.NARROW (R45). -/
  narrow : Bool
  /-- TX, index 0 first (R32). -/
  tx : List Byte
  /-- RX, index 0 first (R33). -/
  rx : List Byte
  /-- FRAME, index 0 first (R34). -/
  frame : List Byte
  /-- The model's own: the implementation's parameters (R7, R50; log 4). -/
  params : Params
  /-- The model's own: host events not yet taken, oldest first (log 1). -/
  pending : List HostEvent
  /-- The model's own: what the last completed read returned, if any (log 3). -/
  readData : Option Word
deriving DecidableEq, Repr

/-- The state after reset (R260), with the default parameters (R7) and no host event waiting. -/
def State.reset : State :=
  { opa := 0, addr := 0, seq := 0, param := 0, inst := 0, value := 0, res := 0, crc := 0, rctl := 0, raddr := 0, rseq := 0,
    err := 0, errs := false, rxovf := false, closed := false, fvalid := false, narrow := false,
    tx := [], rx := [], frame := [],
    params := Params.default, pending := [], readData := none }

/-- Why the machine stops with a fault. The block itself has no trap (60_exceptions.md R238). -/
inductive Fault where
  /-- Raised by a host access whose address is outside the 0x1000 bytes of register space (R50): no register of the block
  is there (log 7). Safe: the model stops where another device, or nothing, would answer. -/
  | outsideRegisterSpace
deriving DecidableEq, Repr

/-- Why the model gives no meaning. -/
inductive Refusal where
  /-- Raised by an arm of `exec` whose instruction has no meaning yet. No arm raises it. Safe. -/
  | notModelled (mnemonic : String)
  /-- Raised by `step` when no host event waits: the block takes no step of its own (R6, R216; log 2). Safe. -/
  | noHostAccess
  /-- Raised by an access whose width is not 4 bytes: R51 says that the model refuses it (log 6). Safe. -/
  | badWidth
  /-- Raised by an access whose offset is no multiple of 4: R51 says that the model refuses it (log 6). Safe. -/
  | unalignedAccess
deriving DecidableEq, Repr

end Sys2Proof.Machine
end

