-- ==== Sys2Proof/Machine/Operands.lean ====
section
/-! DEFINITION. The values that instructions read and write: ASCII bytes (00_scope.md R10), hex rendering and parsing
(R11, R12), byte-string slices (R9), tokens (40_codec.md R104), fixed-width fields of FRAME (R106). -/

namespace Sys2Proof.Machine

/-! ### ASCII (R10; log 11) -/

/-- Carriage return, the terminator (R170). -/
def charCR : Byte := 0x0D

/-- `#`, the host-to-device control byte. -/
def charHash : Byte := 0x23

/-- `!`, the device-to-host control byte. -/
def charBang : Byte := 0x21

def charQuestion : Byte := 0x3F

def charR : Byte := 0x52

def charS : Byte := 0x53

def charV : Byte := 0x56

/-! ### Hex rendering (R11) -/

/-- `hexdigit(d)` of R11, for `d` in 0..15. -/
def hexDigit (d : Nat) : Byte :=
  if d ≤ 9 then BitVec.ofNat 8 (0x30 + d) else BitVec.ofNat 8 (0x41 + (d - 10))

/-- `hex_N(v)` of R11: `n` upper-case digits, most significant first. -/
def hexN : Nat → Nat → List Byte
  | 0, _ => []
  | n + 1, v => hexDigit (v / 16 ^ n % 16) :: hexN n v

/-! ### Hex parsing (R12) -/

/-- `nib(c)` of R12; `lowerOk` is HEX_LOWER_OK. -/
def nib (lowerOk : Bool) (c : Byte) : Option Nat :=
  if 0x30 ≤ c.toNat ∧ c.toNat ≤ 0x39 then some (c.toNat - 0x30)
  else if 0x41 ≤ c.toNat ∧ c.toNat ≤ 0x46 then some (c.toNat - 0x37)
  else if 0x61 ≤ c.toNat ∧ c.toNat ≤ 0x66 ∧ lowerOk = true then some (c.toNat - 0x57)
  else none

/-- Parsing from the left with the digits read so far. -/
def unhexFrom (lowerOk : Bool) (acc : Nat) : List Byte → Option Nat
  | [] => some acc
  | c :: cs =>
    match nib lowerOk c with
    | none => none
    | some d => unhexFrom lowerOk (acc * 16 + d) cs

/-- `unhex(s)` of R12: first byte most significant. -/
def unhex (lowerOk : Bool) (s : List Byte) : Option Nat := unhexFrom lowerOk 0 s

/-! ### Byte strings (R9) -/

/-- `s[a..b)` of R9; empty when `a >= b`. -/
def slice (s : List Byte) (a b : Nat) : List Byte := (s.take b).drop a

/-- The bytes before the first terminator and the bytes after it, if there is a terminator (R172). -/
def splitAtCR : List Byte → Option (List Byte × List Byte)
  | [] => none
  | c :: cs =>
    if c = charCR then some ([], cs)
    else
      match splitAtCR cs with
      | none => none
      | some (line, rest) => some (c :: line, rest)

/-- The word of a bus window: byte `4k` in bits 7:0, bytes past the end read 0 (20_memory.md R57, R58). -/
def windowWord (s : List Byte) (k : Nat) : Word :=
  (s.getD (4 * k) 0).setWidth 32 ||| ((s.getD (4 * k + 1) 0).setWidth 32 <<< 8)
    ||| ((s.getD (4 * k + 2) 0).setWidth 32 <<< 16) ||| ((s.getD (4 * k + 3) 0).setWidth 32 <<< 24)

/-! ### Operand forms of the commands -/

/-- The byte TX_CTL appends (42_assembler.md R151). -/
def controlByte : ControlSel → Byte
  | .host => charHash
  | .device => charBang

/-- The bytes of a token (40_codec.md R104). -/
def tokenBytes : Token → List Byte
  | .vr => [charQuestion, charV, charR]
  | .vs => [charV, charS]

/-- The id of a token (R104). -/
def tokenId : Token → Word
  | .vr => 0
  | .vs => 1

/-- `field(off, w)` of R106: none stands for `raise MalformedField`. -/
def frameField (lowerOk : Bool) (frame : List Byte) (off w : Nat) : Option Nat :=
  if frame.length < off + w then none else unhex lowerOk (slice frame off (off + w))

/-- The token that is a prefix of `FRAME[off..)` (R113). -/
def frameToken (frame : List Byte) (off : Nat) : Option Token :=
  if off + 3 ≤ frame.length ∧ slice frame off (off + 3) = tokenBytes .vr then some .vr
  else if off + 2 ≤ frame.length ∧ slice frame off (off + 2) = tokenBytes .vs then some .vs
  else none

end Sys2Proof.Machine
end

