-- ==== Sys2Proof/Machine/Crc.lean ====
section
/-! DEFINITION. CRC-16/XMODEM (41_checksum.md R130; the points it marks as general knowledge are log 11's). -/

namespace Sys2Proof.Machine

/-- One turn of the loop of `crc_step` (R130). -/
def crcShift (c : Half) : Half :=
  if c.getLsbD 15 = true then (c <<< 1) ^^^ 0x1021 else c <<< 1

/-- `n` turns of the loop. -/
def crcShifts : Nat → Half → Half
  | 0, c => c
  | n + 1, c => crcShifts n (crcShift c)

/-- `crc_step(c, b)` of R130. -/
def crcStep (c : Half) (b : Byte) : Half := crcShifts 8 (c ^^^ (b.setWidth 16 <<< 8))

/-- `crc16(s)` of R130. -/
def crc16 (s : List Byte) : Half := s.foldl crcStep 0

end Sys2Proof.Machine
end

