-- ==== Sys2Proof/Machine/Flags.lean ====
section
/-! DEFINITION. Error codes (60_exceptions.md R230), the STATUS word with its derived bits (10_state.md R38, R41, R46) and
the CFG word (R47). -/

namespace Sys2Proof.Machine

/-- The outcomes of a command (R230). -/
inductive ErrorCode where
  | ok
  | encodingError
  | malformedField
  | unknownCommand
  | unexpectedResponseValue
  | timeout
  | connectionClosed
  | checksumMismatch
  | illegalCommand
  | txOverflow
  | wouldBlock
deriving DecidableEq, Repr

/-- The code written to STATUS.ERR (R230). -/
def errorBits : ErrorCode → BitVec 4
  | .ok => 0
  | .encodingError => 1
  | .malformedField => 2
  | .unknownCommand => 3
  | .unexpectedResponseValue => 4
  | .timeout => 5
  | .connectionClosed => 6
  | .checksumMismatch => 7
  | .illegalCommand => 8
  | .txOverflow => 9
  | .wouldBlock => 10

/-- The codes that set STATUS.ERRS: 1..9 (R232); OK and WouldBlock are no errors (R234). -/
def setsErrs : ErrorCode → Bool
  | .ok | .wouldBlock => false
  | .encodingError | .malformedField | .unknownCommand | .unexpectedResponseValue | .timeout | .connectionClosed
  | .checksumMismatch | .illegalCommand | .txOverflow => true

/-- STATUS.FAVAIL: RX holds a terminator (R41). -/
def favail (s : State) : Bool := s.rx.contains charCR

/-- STATUS.RXFULL: `|RX| = RX_CAP` (R46). -/
def rxfull (s : State) : Bool := s.rx.length == s.params.rxCap

/-- A flag at bit `n` of a word. -/
def bitAt (n : Nat) (b : Bool) : Word := if b = true then 1 <<< n else 0

/-- What a read of STATUS returns (R38). -/
def statusWord (s : State) : Word :=
  s.err.setWidth 32 ||| bitAt 4 s.errs ||| bitAt 8 (favail s) ||| bitAt 9 s.rxovf ||| bitAt 10 s.closed
    ||| bitAt 11 s.fvalid ||| bitAt 12 s.narrow ||| bitAt 13 (rxfull s)

/-- What a read of CFG returns (R47). -/
def cfgWord (p : Params) : Word :=
  bitAt 0 p.hexLowerOk ||| bitAt 1 p.strictControl ||| (BitVec.ofNat 32 p.txCap <<< 8)
    ||| (BitVec.ofNat 32 p.rxCap <<< 16)

end Sys2Proof.Machine
end

