-- ==== Sys2Proof/Machine/Ops.lean ====
section
/-! DEFINITION. The shared operations: the updates of each part of the state, how a command ends (60_exceptions.md R230 to
R234, the block's only form of an exception), appending to TX (40_codec.md R100), the reset input (R260). -/

namespace Sys2Proof.Machine

/-- The outcome type of the machine's steps. -/
abbrev Result := Host.Outcome State Fault Refusal

/-! ### Updates -/

def State.withOperand (s : State) (r : OperandReg) (v : Word) : State :=
  match r with
  | .opa => { s with opa := v }
  | .addr => { s with addr := v }
  | .seq => { s with seq := v }
  | .param => { s with param := v }
  | .inst => { s with inst := v }
  | .value => { s with value := v }

def State.withRes (s : State) (v : Word) : State := { s with res := v }

def State.withCrc (s : State) (c : Half) : State := { s with crc := c }

/-- The header fields and checksum of a parsed response (44_response.md R195, R196). -/
def State.withHeader (s : State) (ctl a : Byte) (q : Half) (c : Half) : State :=
  { s with rctl := ctl, raddr := a, rseq := q, crc := c }

def State.withNarrow (s : State) (b : Bool) : State := { s with narrow := b }

def State.withErrs (s : State) (b : Bool) : State := { s with errs := b }

def State.withRxovf (s : State) (b : Bool) : State := { s with rxovf := b }

def State.withClosed (s : State) (b : Bool) : State := { s with closed := b }

def State.withTx (s : State) (bs : List Byte) : State := { s with tx := bs }

def State.withRx (s : State) (bs : List Byte) : State := { s with rx := bs }

/-- A popped frame line and the retained remainder (43_reader.md R172). -/
def State.withPopped (s : State) (line rest : List Byte) : State := { s with frame := line, rx := rest, fvalid := true }

def State.withPending (s : State) (es : List HostEvent) : State := { s with pending := es }

def State.withReadData (s : State) (v : Word) : State := { s with readData := some v }

/-! ### How a command ends -/

/-- Every command ends by writing its code to STATUS.ERR (R231); a code in 1..9 also sets STATUS.ERRS, and no command
clears it (R232). -/
def State.endWith (s : State) (e : ErrorCode) : State :=
  { s with err := errorBits e, errs := setsErrs e || s.errs }

/-- `ok` of R13. -/
def commandOk (s : State) : Result := .next (s.endWith .ok)

/-- `raise E` of R13, and the WouldBlock end of R234: nothing but ERR and ERRS changes (R233). -/
def raise (e : ErrorCode) (s : State) : Result := .next (s.endWith e)

/-- Ends a command whose body either gives its new state or the code it ends with; in the second case all of the body's
effect is dropped (R233). -/
def finish (s : State) : Except ErrorCode State → Result
  | .ok t => commandOk t
  | .error e => raise e s

/-! ### TX -/

/-- `tx_append(s)` of R100. -/
def txAppend (bs : List Byte) (s : State) : Except ErrorCode State :=
  if s.params.txCap < s.tx.length + bs.length then .error .txOverflow else .ok (s.withTx (s.tx ++ bs))

/-- A command whose whole effect is to append `bs` to TX. -/
def appendCommand (bs : List Byte) (s : State) : Result := finish s (txAppend bs s)

/-! ### Decoders -/

/-- A command that writes a field of FRAME to RES (R106, R110 to R112). -/
def decodeField (off : Byte) (w : Nat) (s : State) : Result :=
  match frameField s.params.hexLowerOk s.frame off.toNat w with
  | none => raise .malformedField s
  | some v => commandOk (s.withRes (BitVec.ofNat 32 v))

/-! ### The bus -/

/-- How an access that has no step stops (R50, R51). -/
def rejectAccess : AccessReject → Result
  | .outside => .fault .outsideRegisterSpace
  | .badWidth => .refused .badWidth
  | .unaligned => .refused .unalignedAccess

/-- What a read of an aligned offset returns (20_memory.md R52, R55, R57, R58; 10_state.md R21 to R48). -/
def readTarget (s : State) : Target → Word
  | .cmd => 0
  | .status => statusWord s
  | .operand .opa => s.opa
  | .operand .addr => s.addr
  | .operand .seq => s.seq
  | .operand .param => s.param
  | .operand .inst => s.inst
  | .operand .value => s.value
  | .res => s.res
  | .crc => s.crc.setWidth 32
  | .rctl => s.rctl.setWidth 32
  | .raddr => s.raddr.setWidth 32
  | .rseq => s.rseq.setWidth 32
  | .txlen => BitVec.ofNat 32 s.tx.length
  | .rxlen => BitVec.ofNat 32 s.rx.length
  | .flen => BitVec.ofNat 32 s.frame.length
  | .rxdata => 0
  | .cfg => cfgWord s.params
  | .txWindow k => windowWord s.tx k
  | .frameWindow k => windowWord s.frame k
  | .unmapped => 0

/-! ### The reset input -/

/-- A pulse of the reset input: all of R20's state takes its reset value at once (R260); the parameters do not change
(R261), nor does the host's side (log 8). -/
def resetBlock (s : State) : State :=
  { State.reset with params := s.params, pending := s.pending, readData := s.readData }

end Sys2Proof.Machine
end

