-- ==== Sys2Proof/Machine/Assembler.lean ====
section
/-! DEFINITION. The frame assembler's commands (42_assembler.md R150 to R156). -/

namespace Sys2Proof.Machine

/-- TX_CLR (R150). -/
def execTxClr (s : State) : Result := commandOk (s.withTx [])

/-- TX_CTL (R151). -/
def execTxCtl (sel : ControlSel) (s : State) : Result := appendCommand [controlByte sel] s

/-- ENC_TERM (R152). -/
def execEncTerm (s : State) : Result := appendCommand [charCR] s

/-- `range_ok` of R153. -/
def rangeOk (s : State) : Bool :=
  decide (s.addr.toNat ≤ 0xFF) && decide (s.seq.toNat ≤ 0xFFFF) && decide (s.param.toNat ≤ 0xFFFF)
    && decide (s.inst.toNat ≤ 0xFF)

/-- `frame(body)` of R154. -/
def frameOf (body : List Byte) : List Byte := body ++ hexN 4 (crc16 body).toNat ++ [charCR]

/-- The header and the payload without its value field: the bodies of R155 and R156 up to the instance (R79). -/
def requestBody (tok : Token) (s : State) : List Byte :=
  [charHash] ++ hexN 2 s.addr.toNat ++ hexN 4 s.seq.toNat ++ tokenBytes tok ++ hexN 4 s.param.toNat
    ++ hexN 2 s.inst.toNat

/-- Replaces TX by the frame of a body and leaves its checksum in CRC, when the operands are in range (R153, R155, R156). -/
def assemble (body : List Byte) (s : State) : Result :=
  if rangeOk s = true then commandOk ((s.withTx (frameOf body)).withCrc (crc16 body)) else raise .encodingError s

/-- ASM_VR (R155). -/
def execAsmVr (s : State) : Result := assemble (requestBody .vr s) s

/-- ASM_VS (R156). -/
def execAsmVs (s : State) : Result := assemble (requestBody .vs s ++ hexN 8 s.value.toNat) s

end Sys2Proof.Machine
end

