-- ==== Sys2Proof/Machine/Checksum.lean ====
section
/-! DEFINITION. The checksum commands (41_checksum.md R131 to R135). -/

namespace Sys2Proof.Machine

/-- CRC_CLR (R131). -/
def execCrcClr (s : State) : Result := commandOk (s.withCrc 0)

/-- CRC_BYTE (R132). -/
def execCrcByte (s : State) : Result :=
  if 0xFF < s.opa.toNat then raise .encodingError s
  else commandOk (s.withCrc (crcStep s.crc (s.opa.extractLsb' 0 8)))

/-- CRC_TX (R133). -/
def execCrcTx (s : State) : Result := commandOk (s.withCrc (crc16 s.tx))

/-- CRC_FRM (R134). -/
def execCrcFrm (n : Byte) (s : State) : Result :=
  if s.frame.length < n.toNat then raise .malformedField s
  else commandOk (s.withCrc (crc16 (slice s.frame 0 n.toNat)))

/-- ENC_CRC (R135). -/
def execEncCrc (s : State) : Result :=
  match txAppend (hexN 4 (crc16 s.tx).toNat) s with
  | .error e => raise e s
  | .ok t => commandOk (t.withCrc (crc16 s.tx))

end Sys2Proof.Machine
end

