-- ==== Sys2Proof/Machine/Codec.lean ====
section
/-! DEFINITION. The wire value codec's commands (40_codec.md R101 to R113). -/

namespace Sys2Proof.Machine

/-- ENC_U8 (R101). -/
def execEncU8 (s : State) : Result :=
  if 0xFF < s.opa.toNat then raise .encodingError s else appendCommand (hexN 2 s.opa.toNat) s

/-- ENC_U16 (R102). -/
def execEncU16 (s : State) : Result :=
  if 0xFFFF < s.opa.toNat then raise .encodingError s else appendCommand (hexN 4 s.opa.toNat) s

/-- ENC_F32 (R103). -/
def execEncF32 (s : State) : Result := appendCommand (hexN 8 s.opa.toNat) s

/-- ENC_TOK (R105). -/
def execEncTok (tok : Token) (s : State) : Result := appendCommand (tokenBytes tok) s

/-- DEC_U8 (R110). -/
def execDecU8 (off : Byte) (s : State) : Result := decodeField off 2 s

/-- DEC_U16 (R111). -/
def execDecU16 (off : Byte) (s : State) : Result := decodeField off 4 s

/-- DEC_F32 (R112). -/
def execDecF32 (off : Byte) (s : State) : Result := decodeField off 8 s

/-- DEC_TOK (R113). -/
def execDecTok (off : Byte) (s : State) : Result :=
  match frameToken s.frame off.toNat with
  | some tok => commandOk (s.withRes (tokenId tok))
  | none => raise .unknownCommand s

end Sys2Proof.Machine
end

