-- ==== Sys2Proof/Machine/Control.lean ====
section
/-! DEFINITION. NOP (45_control.md R210). -/

namespace Sys2Proof.Machine

/-- NOP (R210). -/
def execNop (s : State) : Result := commandOk s

end Sys2Proof.Machine
end

