-- ==== Sys2Proof/Machine/Reader.lean ====
section
/-! DEFINITION. The frame reader: the RXDATA push and the RX commands (43_reader.md R171 to R176). -/

namespace Sys2Proof.Machine

/-- The push of R171. -/
def pushByte (b : Byte) (s : State) : State :=
  if s.rx.length < s.params.rxCap then s.withRx (s.rx ++ [b]) else s.withRxovf true

/-- RX_POP (R172). -/
def execRxPop (s : State) : Result :=
  match splitAtCR s.rx with
  | some (line, rest) => commandOk (s.withPopped line rest)
  | none => if s.closed = true then raise .connectionClosed s else raise .wouldBlock s

/-- RX_FLUSH (R173). -/
def execRxFlush (s : State) : Result := commandOk ((s.withRx []).withRxovf false)

/-- RX_CLOSE (R174). -/
def execRxClose (s : State) : Result := commandOk (s.withClosed true)

/-- RX_OPEN (R175). -/
def execRxOpen (s : State) : Result := commandOk (s.withClosed false)

/-- RX_TIMEOUT (R176): the one command whose error leaves another change in place (R233). -/
def execRxTimeout (s : State) : Result := raise .timeout (s.withRx [])

end Sys2Proof.Machine
end

