-- ==== Sys2Proof/Machine/Response.lean ====
section
/-! DEFINITION. The response decoder (44_response.md R190 to R196). -/

namespace Sys2Proof.Machine

/-- What `rsp_parse()` returns (R191): control byte, address, sequence, value, checksum. -/
structure Response where
  ctl : Byte
  addr : Byte
  seq : Half
  value : Word
  crc : Half
deriving DecidableEq, Repr

/-- Steps 5 to 7 of `rsp_parse()` (R191): checksum field, checksum, value. -/
def parseTail (lowerOk : Bool) (frame : List Byte) (ctl : Byte) (a q : Nat) : Except ErrorCode Response :=
  match unhex lowerOk (slice frame (frame.length - 4) frame.length) with
  | none => .error .malformedField
  | some c =>
    if (crc16 (slice frame 0 (frame.length - 4))).toNat ≠ c then .error .checksumMismatch
    else
      match unhex lowerOk (slice frame 7 15) with
      | none => .error .malformedField
      | some v =>
        .ok { ctl := ctl, addr := BitVec.ofNat 8 a, seq := BitVec.ofNat 16 q, value := BitVec.ofNat 32 v,
              crc := BitVec.ofNat 16 c }

/-- `rsp_parse()` (R191): the checks in the rule's order, the first that fails gives the error. -/
def parseResponse (p : Params) (frame : List Byte) : Except ErrorCode Response :=
  if frame.length < 7 then .error .malformedField
  else if p.strictControl = true ∧ frame.getD 0 0 ≠ charBang then .error .malformedField
  else
    match unhex p.hexLowerOk (slice frame 1 3), unhex p.hexLowerOk (slice frame 3 7) with
    | some a, some q =>
      if frame.length - 7 < 8 + 4 then .error .unexpectedResponseValue
      else parseTail p.hexLowerOk frame (frame.getD 0 0) a q
    | _, _ => .error .malformedField

/-- The part RSP_F32 and RSP_U16 share (R195, R196): RCTL, RADDR, RSEQ and CRC take what was parsed. -/
def storeHeader (r : Response) (s : State) : State := s.withHeader r.ctl r.addr r.seq r.crc

/-- RSP_F32 (R195). -/
def execRspF32 (s : State) : Result :=
  match parseResponse s.params s.frame with
  | .error e => raise e s
  | .ok r => commandOk ((storeHeader r s).withRes r.value)

/-- RSP_U16 (R196): RES keeps the low 16 bits, NARROW tells whether the high 16 bits were non-zero. -/
def execRspU16 (s : State) : Result :=
  match parseResponse s.params s.frame with
  | .error e => raise e s
  | .ok r =>
    commandOk (((storeHeader r s).withRes ((r.value.extractLsb' 0 16).setWidth 32)).withNarrow
      (r.value.extractLsb' 16 16 != 0))

end Sys2Proof.Machine
end

