-- ==== Sys2Proof/Machine/Bus.lean ====
section
/-! DEFINITION. The bus operations (45_control.md R211 to R215). -/

namespace Sys2Proof.Machine

/-- Runs the command a CMD write carries (R211). No word decodes to a bus operation; those arms end as an illegal word
does (log 14). -/
def performCommand (i : Instr) (s : State) : Result :=
  match i with
  | .nop => execNop s
  | .crcClr => execCrcClr s
  | .crcByte => execCrcByte s
  | .crcTx => execCrcTx s
  | .crcFrm n => execCrcFrm n s
  | .txClr => execTxClr s
  | .txCtl sel => execTxCtl sel s
  | .encU8 => execEncU8 s
  | .encU16 => execEncU16 s
  | .encF32 => execEncF32 s
  | .encTok tok => execEncTok tok s
  | .encCrc => execEncCrc s
  | .encTerm => execEncTerm s
  | .asmVr => execAsmVr s
  | .asmVs => execAsmVs s
  | .rxPop => execRxPop s
  | .rxFlush => execRxFlush s
  | .rxClose => execRxClose s
  | .rxOpen => execRxOpen s
  | .rxTimeout => execRxTimeout s
  | .decU8 off => execDecU8 off s
  | .decU16 off => execDecU16 off s
  | .decF32 off => execDecF32 off s
  | .decTok off => execDecTok off s
  | .rspF32 => execRspF32 s
  | .rspU16 => execRspU16 s
  | .busCmdWrite _ => raise .illegalCommand s
  | .busOperandWrite _ _ => raise .illegalCommand s
  | .busStatusWrite _ => raise .illegalCommand s
  | .busRead _ => raise .illegalCommand s
  | .busRxdataWrite _ => raise .illegalCommand s

/-- BUS_CMD_WRITE (R211): an illegal word ends in IllegalCommand before any command runs (R235). -/
def execBusCmdWrite (w : Word) (s : State) : Result :=
  match decodeCommand w with
  | .error _ => raise .illegalCommand s
  | .ok i => performCommand i s

/-- BUS_OPERAND_WRITE (R212). -/
def execBusOperandWrite (r : OperandReg) (v : Word) (s : State) : Result := .next (s.withOperand r v)

/-- BUS_STATUS_WRITE (R213): bit 4 clears ERRS. -/
def execBusStatusWrite (v : Word) (s : State) : Result :=
  if v.getLsbD 4 = true then .next (s.withErrs false) else .next s

/-- BUS_READ (R214): the value goes to the host, the block does not change (R53). -/
def execBusRead (off : Nat) (s : State) : Result :=
  match checkAccess 0 off 4 with
  | .error e => rejectAccess e
  | .ok o => .next (s.withReadData (readTarget s (targetAt o)))

/-- BUS_RXDATA_WRITE (R215, R171): bits 31:8 are ignored. -/
def execBusRxdataWrite (w : Word) (s : State) : Result := .next (pushByte (w.extractLsb' 0 8) s)

end Sys2Proof.Machine
end

