-- ==== Sys2Proof/Machine/Fetch.lean ====
section
/-! DEFINITION. How a step finds what to do: it takes the oldest host event (45_control.md R216, 20_memory.md R60). -/

namespace Sys2Proof.Machine

/-- What the oldest host event asks for: an instruction to run from a state, or an outcome that needs none. -/
inductive Fetched where
  | run (i : Instr) (s : State)
  | done (o : Result)

/-- What an access asks for, in the state without it. -/
def fetchAccess (a : Access) (s : State) : Fetched :=
  match decodeAccess s.params.base a with
  | .error e => .done (rejectAccess e)
  | .ok (.run i) => .run i s
  | .ok .noEffect => .done (.next s)

/-- Takes the oldest host event. With none there is no step (R6, R216; log 2). -/
def fetch (s : State) : Fetched :=
  match s.pending with
  | [] => .done (.refused .noHostAccess)
  | .reset :: rest => .done (.next (resetBlock (s.withPending rest)))
  | .access a :: rest => fetchAccess a (s.withPending rest)

/-- Puts a host access before those that wait. -/
def offerAccess (a : Access) (s : State) : State := s.withPending (.access a :: s.pending)

/-- The access that writes a command word to CMD. -/
def commandAccess (base : Nat) (w : Word) : Access := .write (base + cmdOffset) 4 w

end Sys2Proof.Machine
end

