-- ==== Sys2Proof/Machine/Dispatch.lean ====
section
/-! DEFINITION. The meaning of each instruction: one arm per constructor. -/

namespace Sys2Proof.Machine

def exec (i : Instr) (s : State) : Host.Outcome State Fault Refusal :=
  match i with
  | .nop => Sys2Proof.Machine.execNop s
  | .crcClr => Sys2Proof.Machine.execCrcClr s
  | .crcByte => Sys2Proof.Machine.execCrcByte s
  | .crcTx => Sys2Proof.Machine.execCrcTx s
  | .crcFrm n => Sys2Proof.Machine.execCrcFrm n s
  | .txClr => Sys2Proof.Machine.execTxClr s
  | .txCtl sel => Sys2Proof.Machine.execTxCtl sel s
  | .encU8 => Sys2Proof.Machine.execEncU8 s
  | .encU16 => Sys2Proof.Machine.execEncU16 s
  | .encF32 => Sys2Proof.Machine.execEncF32 s
  | .encTok tok => Sys2Proof.Machine.execEncTok tok s
  | .encCrc => Sys2Proof.Machine.execEncCrc s
  | .encTerm => Sys2Proof.Machine.execEncTerm s
  | .asmVr => Sys2Proof.Machine.execAsmVr s
  | .asmVs => Sys2Proof.Machine.execAsmVs s
  | .rxPop => Sys2Proof.Machine.execRxPop s
  | .rxFlush => Sys2Proof.Machine.execRxFlush s
  | .rxClose => Sys2Proof.Machine.execRxClose s
  | .rxOpen => Sys2Proof.Machine.execRxOpen s
  | .rxTimeout => Sys2Proof.Machine.execRxTimeout s
  | .decU8 off => Sys2Proof.Machine.execDecU8 off s
  | .decU16 off => Sys2Proof.Machine.execDecU16 off s
  | .decF32 off => Sys2Proof.Machine.execDecF32 off s
  | .decTok off => Sys2Proof.Machine.execDecTok off s
  | .rspF32 => Sys2Proof.Machine.execRspF32 s
  | .rspU16 => Sys2Proof.Machine.execRspU16 s
  | .busCmdWrite w => Sys2Proof.Machine.execBusCmdWrite w s
  | .busOperandWrite r v => Sys2Proof.Machine.execBusOperandWrite r v s
  | .busStatusWrite v => Sys2Proof.Machine.execBusStatusWrite v s
  | .busRead off => Sys2Proof.Machine.execBusRead off s
  | .busRxdataWrite w => Sys2Proof.Machine.execBusRxdataWrite w s

end Sys2Proof.Machine
end

