-- ==== Sys2Proof/Machine/Step.lean ====
section
/-! DEFINITION. One step: the block performs the oldest host event (45_control.md R216). -/

namespace Sys2Proof.Machine

/-- One step of the machine. -/
def step (s : State) : Host.Outcome State Fault Refusal :=
  match fetch s with
  | .run i t => exec i t
  | .done o => o

/-- `s` with the host about to write the command word of the opcode table's row to CMD (log 1). -/
def State.withFetchWord (s : State) (nbits w : Nat) : State :=
  offerAccess (commandAccess s.params.base (tableWord nbits w)) s

end Sys2Proof.Machine
end

