-- ==== Sys2Proof/Safety.lean ====
section
/-! DEFINITION. What claims speak of: the invariant of every reachable state, which instructions are commands, which command
an instruction performs, runs of instructions, and the bytes that pass through the frame reader. -/

namespace Sys2Proof.Machine

/-- The rows of 30_encoding.md R73; the other instructions are the bus operations of R211 to R215. -/
def isCommand : Instr → Bool
  | .busCmdWrite _ | .busOperandWrite _ _ | .busStatusWrite _ | .busRead _ | .busRxdataWrite _ => false
  | .nop | .crcClr | .crcByte | .crcTx | .crcFrm _ | .txClr | .txCtl _ | .encU8 | .encU16 | .encF32 | .encTok _
  | .encCrc | .encTerm | .asmVr | .asmVs | .rxPop | .rxFlush | .rxClose | .rxOpen | .rxTimeout | .decU8 _ | .decU16 _
  | .decF32 _ | .decTok _ | .rspF32 | .rspU16 => true

/-- The instruction whose effect takes place: a CMD write performs the command its word decodes to, or none (R211). -/
def performed : Instr → Option Instr
  | .busCmdWrite w =>
    match decodeCommand w with
    | .ok i => some i
    | .error _ => none
  | i => some i

/-- An instruction that ends as a command does: a command, or a write to CMD (R231). -/
def endsACommand : Instr → Bool
  | .busCmdWrite _ => true
  | i => isCommand i

/-- A code in 1..9 (R232). -/
def isErrorCode (e : BitVec 4) : Bool := decide (1 ≤ e.toNat) && decide (e.toNat ≤ 9)

/-- Instructions one after the other, as long as each gives a next state. -/
def runInstrs : List Instr → State → Option State
  | [], s => some s
  | i :: is, s =>
    match exec i s with
    | .next t => runInstrs is t
    | .fault _ => none
    | .refused _ => none

/-! ### The invariant -/

/-- The bytes that TX can hold: those the encoders write (30_encoding.md R81), and the terminator. -/
def txAlphabet : List Byte :=
  [0x23, 0x21, 0x3F, 0x56, 0x52, 0x53, 0x30, 0x31, 0x32, 0x33, 0x34, 0x35, 0x36, 0x37, 0x38, 0x39, 0x41, 0x42, 0x43,
    0x44, 0x45, 0x46, 0x0D]

/-- What holds of every state a run from reset reaches: the parameters are legal (R7), the buffers keep their bounds (R32 to
R34), TX holds only bytes the encoders write (R81), FRAME holds no terminator (R81), ERR is a code of R230, before the first
frame line FRAME and all that is decoded from it are as after reset (R44, R260), and with STRICT_CONTROL only the control
byte `!` is ever reported (R194). -/
abbrev State.Inv (s : State) : Prop :=
  s.params.legal = true ∧
  s.tx.length ≤ s.params.txCap ∧
  s.rx.length ≤ s.params.rxCap ∧
  s.frame.length + 1 ≤ s.params.rxCap ∧
  (∀ b ∈ s.tx, b ∈ txAlphabet) ∧
  charCR ∉ s.frame ∧
  s.err.toNat ≤ 10 ∧
  (s.fvalid = false →
    s.frame = [] ∧ s.res = 0 ∧ s.rctl = 0 ∧ s.raddr = 0 ∧ s.rseq = 0 ∧ s.narrow = false) ∧
  (s.params.strictControl = true → s.rctl = 0 ∨ s.rctl = charBang)

/-! ### The bytes through the frame reader (43_reader.md R178) -/

/-- The byte an instruction adds to RX from a state, if it is a push that is accepted (R171). -/
def acceptedBytes (s : State) : Instr → List Byte
  | .busRxdataWrite w => if s.rx.length < s.params.rxCap then [w.extractLsb' 0 8] else []
  | _ => []

/-- The bytes an instruction takes out of RX as a frame line, with its terminator, told from the state after it (R172). -/
def deliveredBytes (i : Instr) (t : State) : List Byte :=
  if performed i = some .rxPop ∧ t.err = 0 then t.frame ++ [charCR] else []

/-- A run of instructions with the bytes accepted and the bytes delivered on the way. -/
def readerTrace : List Instr → State → Option (State × List Byte × List Byte)
  | [], s => some (s, [], [])
  | i :: is, s =>
    match exec i s with
    | .fault _ => none
    | .refused _ => none
    | .next t =>
      match readerTrace is t with
      | none => none
      | some (u, acc, del) => some (u, acceptedBytes s i ++ acc, deliveredBytes i t ++ del)

/-- The bytes of the frame line of a response (30_encoding.md R80): a control byte, the header fields, an 8-digit value, any
further value characters, and the checksum of all of them. -/
def responseBody (ctl a : Byte) (q : Half) (v : Word) (ext : List Byte) : List Byte :=
  [ctl] ++ hexN 2 a.toNat ++ hexN 4 q.toNat ++ hexN 8 v.toNat ++ ext

/-- A response's body and its checksum field. -/
def responseLine (ctl a : Byte) (q : Half) (v : Word) (ext : List Byte) : List Byte :=
  responseBody ctl a q v ext ++ hexN 4 (crc16 (responseBody ctl a q v ext)).toNat

end Sys2Proof.Machine
end

