-- ==== Sys2Proof/Certificates/Slice0/Obligations.lean ====
section
/-! DEFINITION. The statements for the provers. `s`, `t`, `u` are states; a command's new state is written out as a record
update, so that every field the update does not name is unchanged (the instruction's frame). The block has no byte-addressed
memory (20_memory.md R63, R64); the byte strings TX, RX and FRAME are fields like the others. -/

open Sys2Proof Sys2Proof.Machine

/-! ### Encoding -/

/-- Every command has a word and the decoder reads that command from it; conversely a word that decodes has exactly the word
the encoder gives (30_encoding.md R72, R74). -/
def Obligations.DecodeEncodeAgreeOnCommands : Prop :=
  (∀ i : Instr, isCommand i = true → ∃ w, encodeCommand i = some w ∧ decodeCommand w = .ok i) ∧
  (∀ (w : Word) (i : Instr), decodeCommand w = .ok i → encodeCommand i = some w ∧ isCommand i = true)

/-- Every well-formed bus operation is read back from its host access, and every command's access is a CMD write of a word
that decodes to it, at every base address (20_memory.md R50, R55; 45_control.md R211 to R215). -/
def Obligations.AccessDecodeEncodeAgree : Prop :=
  ∀ (base : Nat) (i : Instr), i.wellFormed = true →
    ∃ a, encode base i = some a ∧
      ((isCommand i = false → decodeAccess base a = .ok (.run i)) ∧
       (isCommand i = true → ∃ w, decodeAccess base a = .ok (.run (.busCmdWrite w)) ∧ decodeCommand w = .ok i))

/-- A word is legal exactly when its upper half is 0, its opcode is one of the map and its field is legal for the opcode;
any other word changes only ERR (to 8) and ERRS (30_encoding.md R72). -/
def Obligations.LegalWordsAndIllegalCommand : Prop :=
  (∀ w : Word, (∃ i, decodeCommand w = .ok i) ↔
    (w.extractLsb' 16 16 = 0 ∧
      ((w.extractLsb' 8 8 = 0 ∧ (w.extractLsb' 0 8).toNat ∈
          [0x00, 0x01, 0x02, 0x03, 0x10, 0x12, 0x13, 0x14, 0x16, 0x17, 0x18, 0x19, 0x20, 0x21, 0x22, 0x23, 0x24, 0x34,
            0x35]) ∨
       ((w.extractLsb' 8 8).toNat ≤ 1 ∧ (w.extractLsb' 0 8).toNat ∈ [0x11, 0x15]) ∨
       (w.extractLsb' 0 8).toNat ∈ [0x04, 0x30, 0x31, 0x32, 0x33]))) ∧
  (∀ (w : Word) (i : Instr) (s : State), decodeCommand w = .ok i → exec (.busCmdWrite w) s = exec i s) ∧
  (∀ (w : Word) (s : State), (¬ ∃ i, decodeCommand w = .ok i) →
    exec (.busCmdWrite w) s = .next { s with err := 8, errs := true })

/-- A few words written out from the tables of 30_encoding.md R73 and the examples of R74. -/
def Obligations.SampleWordsDecode : Prop :=
  decodeCommand 0x00000000 = .ok .nop ∧ decodeCommand 0x00000331 = .ok (.decU16 3) ∧
  decodeCommand 0x00000111 = .ok (.txCtl .device) ∧ decodeCommand 0x00000018 = .ok .asmVr ∧
  decodeCommand 0x00000115 = .ok (.encTok .vs) ∧ decodeCommand 0x00001004 = .ok (.crcFrm 16) ∧
  decodeCommand 0x00000024 = .ok .rxTimeout ∧ decodeCommand 0x00000035 = .ok .rspU16

/-! ### Steps -/

/-- A step takes the oldest host event. When it is an access that decodes to an instruction, the step is that instruction's
meaning from the state without the event; in particular a CMD write of a legal word runs the word's command (45_control.md
R211, R216; the list of events is the model's, log 1). -/
def Obligations.StepRunsTheDecodedInstruction : Prop :=
  (∀ (s : State) (a : Access) (rest : List HostEvent) (i : Instr),
    s.pending = .access a :: rest → decodeAccess s.params.base a = .ok (.run i) →
      step s = exec i { s with pending := rest }) ∧
  (∀ (s : State) (w : Word) (rest : List HostEvent) (i : Instr),
    s.pending = .access (.write s.params.base 4 w) :: rest → decodeCommand w = .ok i →
      step s = exec i { s with pending := rest })

/-- Only aligned 32-bit accesses inside the register space have a step: inside it another width or an offset that is no
multiple of 4 is refused (20_memory.md R51). The rest is the model's: that an address outside the register space faults is
DEDUCED (log 7), that there is no step without a host event is DEDUCED (log 2), and these are DESIGN CHOICES of log 6: the
names of the two refusals, that outside is reported before width and width before alignment, and that an access belongs to
the register space when its first byte does. R51 gives no order. -/
def Obligations.UndefinedAccessesHaveNoStep : Prop :=
  (∀ (s : State) (a : Access) (addr width : Nat) (rest : List HostEvent),
    s.pending = .access a :: rest → (a = .read addr width ∨ ∃ v, a = .write addr width v) →
      ((s.params.base ≤ addr ∧ addr < s.params.base + 0x1000) → width ≠ 4 → step s = .refused .badWidth) ∧
      ((s.params.base ≤ addr ∧ addr < s.params.base + 0x1000) → width = 4 → (addr - s.params.base) % 4 ≠ 0 →
        step s = .refused .unalignedAccess) ∧
      (¬ (s.params.base ≤ addr ∧ addr < s.params.base + 0x1000) → step s = .fault .outsideRegisterSpace)) ∧
  (∀ s : State, s.pending = [] → step s = .refused .noHostAccess)

/-- Reads of unlisted offsets and of the write-only ports return 0; writes to unlisted offsets and to read-only registers
and windows, and STATUS writes with bit 4 clear, change nothing (20_memory.md R52). `s.params.base + off` is the address of
an offset (R50); the list of events and `readData` are the model's (log 1, log 3). -/
def Obligations.UnmappedAndReadOnlyAccesses : Prop :=
  (∀ (s : State) (off : Nat), off % 4 = 0 →
    ((0x048 ≤ off ∧ off < 0x100) ∨ (0x300 ≤ off ∧ off < 0x1000) ∨ off = 0x000 ∨ off = 0x040) →
      exec (.busRead off) s = .next { s with readData := some 0 }) ∧
  (∀ (s : State) (off : Nat) (v : Word) (rest : List HostEvent), off % 4 = 0 →
    ((0x020 ≤ off ∧ off < 0x040) ∨ (0x044 ≤ off ∧ off < 0x1000)) →
    s.pending = .access (.write (s.params.base + off) 4 v) :: rest → step s = .next { s with pending := rest }) ∧
  (∀ (s : State) (v : Word), v.getLsbD 4 = false → exec (.busStatusWrite v) s = .next s)

/-- Every list of defined accesses and resets runs to its end, one step an event (45_control.md R216, 70_reset_and_hazards.md
R264; the list of events and the reset event are the model's, log 1, log 8). -/
def Obligations.DefinedAccessesRunToTheEnd : Prop :=
  ∀ s : State,
    (∀ e ∈ s.pending, e = .reset ∨ ∃ a b, e = .access a ∧ decodeAccess s.params.base a = .ok b) →
      ∃ t, Host.Core.run Sys2Proof.core s.pending.length s = .next t ∧ t.pending = [] ∧ t.params = s.params

/-! ### The invariant -/

/-- Reset meets the invariant (70_reset_and_hazards.md R260). -/
def Obligations.ResetMeetsTheBlockBounds : Prop := State.Inv State.reset

/-- Every step from a state that meets the invariant gives one that meets it: legal parameters, buffer bounds, TX's
alphabet, no terminator in FRAME, ERR a code of R230, what FVALID = 0 says, RCTL under STRICT_CONTROL. -/
def Obligations.StepKeepsTheBlockBounds : Prop :=
  ∀ s t : State, State.Inv s → step s = .next t → State.Inv t

/-! ### How commands end -/

/-- Every command gives a next state from every state (00_scope.md R14), and so does every CMD write. -/
def Obligations.EveryCommandCompletes : Prop :=
  (∀ (i : Instr) (s : State), isCommand i = true → ∃ t, exec i s = .next t) ∧
  (∀ (w : Word) (s : State), ∃ t, exec (.busCmdWrite w) s = .next t)

/-- ERRS: set by every command that ends with a code in 1..9, cleared only by a STATUS write with bit 4 set and by reset; ERR
is not changed by any register write, read or push (10_state.md R39, R40; the reset event is the model's, log 8). -/
def Obligations.ErrsIsStickyAndErrIsTheCommands : Prop :=
  (∀ (i : Instr) (s t : State), endsACommand i = true → exec i s = .next t →
    t.errs = (s.errs || isErrorCode t.err) ∧ t.err.toNat ≤ 10) ∧
  (∀ (v : Word) (s t : State), exec (.busStatusWrite v) s = .next t → t.errs = (s.errs && !v.getLsbD 4)) ∧
  (∀ (i : Instr) (s t : State), endsACommand i = false → exec i s = .next t →
    t.err = s.err ∧ ((∀ v, i ≠ .busStatusWrite v) → t.errs = s.errs)) ∧
  (∀ (s t : State) (rest : List HostEvent), s.pending = .reset :: rest → step s = .next t → t.errs = false)

/-- The old ERR and ERRS never matter: a command's end overwrites ERR, whatever it was, and its effect on the rest is the same
(60_exceptions.md R231, R232). -/
def Obligations.OldErrorDoesNotMatter : Prop :=
  ∀ (i : Instr) (s t : State) (e : BitVec 4) (b : Bool), endsACommand i = true → exec i s = .next t →
    exec i { s with err := e, errs := b } = .next { t with errs := b || isErrorCode t.err }

/-- A command that ends with an error changes nothing but ERR and ERRS, except RX_TIMEOUT, which also empties RX
(60_exceptions.md R233). -/
def Obligations.FailedCommandChangesNothing : Prop :=
  ∀ (i : Instr) (s t : State), endsACommand i = true → exec i s = .next t → isErrorCode t.err = true →
    (performed i ≠ some .rxTimeout → t = { s with err := t.err, errs := true }) ∧
    (performed i = some .rxTimeout → t = { s with rx := [], err := 5, errs := true })

/-- WouldBlock comes only from RX_POP, sets no ERRS and changes nothing but ERR (60_exceptions.md R234). -/
def Obligations.WouldBlockChangesOnlyErr : Prop :=
  ∀ (i : Instr) (s t : State), endsACommand i = true → exec i s = .next t → t.err = 10 →
    performed i = some .rxPop ∧ t = { s with err := 10 }

/-- Which codes each command can end with: the column "raised by" of the table of 60_exceptions.md R230. -/
def Obligations.ErrorCodesByCommand : Prop :=
  ∀ (i : Instr) (s t : State), isCommand i = true → exec i s = .next t →
    (t.err = 1 → i ∈ [Instr.encU8, .encU16, .crcByte, .asmVr, .asmVs]) ∧
    (t.err = 2 → (∃ n, i = .crcFrm n ∨ i = .decU8 n ∨ i = .decU16 n ∨ i = .decF32 n) ∨ i = .rspF32 ∨ i = .rspU16) ∧
    (t.err = 3 → ∃ n, i = .decTok n) ∧
    (t.err = 4 → i = .rspF32 ∨ i = .rspU16) ∧
    (t.err = 5 ↔ i = .rxTimeout) ∧
    (t.err = 6 → i = .rxPop) ∧
    (t.err = 7 → i = .rspF32 ∨ i = .rspU16) ∧
    (t.err ≠ 8) ∧
    (t.err = 9 → (∃ c, i = .txCtl c) ∨ (∃ k, i = .encTok k) ∨ i ∈ [Instr.encU8, .encU16, .encF32, .encCrc, .encTerm]) ∧
    (t.err = 10 → i = .rxPop)

/-! ### Who writes what -/

/-- Only a bus write to an operand register changes one, and the model's own fields change only as they should: the
parameters and the waiting events never by an instruction, the read data only by a read (10_state.md R21 to R26). -/
def Obligations.OperandRegistersWrittenOnlyByTheHost : Prop :=
  ∀ (i : Instr) (s t : State), exec i s = .next t →
    (t.params = s.params ∧ t.pending = s.pending) ∧
    ((∀ off, i ≠ .busRead off) → t.readData = s.readData) ∧
    ((∀ r v, i ≠ .busOperandWrite r v) →
      t.opa = s.opa ∧ t.addr = s.addr ∧ t.seq = s.seq ∧ t.param = s.param ∧ t.inst = s.inst ∧ t.value = s.value)

/-- RES, RCTL, RADDR, RSEQ and CRC change only by a successful command of their lists (10_state.md R27 to R31). -/
def Obligations.ResultRegisterWriters : Prop :=
  ∀ (i : Instr) (s t : State), exec i s = .next t →
    (t.res ≠ s.res → t.err = 0 ∧
      ((∃ n, performed i = some (.decU8 n) ∨ performed i = some (.decU16 n) ∨ performed i = some (.decF32 n) ∨
        performed i = some (.decTok n)) ∨ performed i = some .rspF32 ∨ performed i = some .rspU16)) ∧
    ((t.rctl ≠ s.rctl ∨ t.raddr ≠ s.raddr ∨ t.rseq ≠ s.rseq) → t.err = 0 ∧
      (performed i = some .rspF32 ∨ performed i = some .rspU16)) ∧
    (t.crc ≠ s.crc → t.err = 0 ∧
      (performed i ∈ [some Instr.crcClr, some .crcByte, some .crcTx, some .encCrc, some .asmVr, some .asmVs, some .rspF32,
        some .rspU16] ∨ ∃ n, performed i = some (.crcFrm n)))

/-- TX, RX and FRAME change only by the commands (and, for RX, the push) of their lists (10_state.md R32 to R34). -/
def Obligations.BufferWriters : Prop :=
  ∀ (i : Instr) (s t : State), exec i s = .next t →
    (t.tx ≠ s.tx →
      performed i ∈ [some Instr.txClr, some .encU8, some .encU16, some .encF32, some .encCrc, some .encTerm, some .asmVr,
        some .asmVs] ∨ (∃ c, performed i = some (.txCtl c)) ∨ ∃ k, performed i = some (.encTok k)) ∧
    (t.rx ≠ s.rx →
      performed i ∈ [some Instr.rxPop, some .rxFlush, some .rxTimeout] ∨ ∃ w, i = .busRxdataWrite w) ∧
    (t.frame ≠ s.frame → performed i = some .rxPop ∧ t.err = 0)

/-- STATUS.RXOVF, CLOSED, FVALID and NARROW: what each instruction leaves in them (10_state.md R42 to R45). -/
def Obligations.StatusBitWriters : Prop :=
  (∀ (i : Instr) (s t : State), exec i s = .next t →
    (t.rxovf = true ↔
      ((∃ w, i = .busRxdataWrite w ∧ s.params.rxCap ≤ s.rx.length) ∨ (s.rxovf = true ∧ performed i ≠ some .rxFlush))) ∧
    (t.closed = true ↔
      (performed i = some .rxClose ∨ (s.closed = true ∧ performed i ≠ some .rxOpen))) ∧
    (t.fvalid = true ↔ ((performed i = some .rxPop ∧ t.err = 0) ∨ s.fvalid = true)) ∧
    (t.narrow ≠ s.narrow → performed i = some .rspU16 ∧ t.err = 0)) ∧
  (∀ (s t : State) (rest : List HostEvent), s.pending = .reset :: rest → step s = .next t →
    t.rxovf = false ∧ t.closed = false ∧ t.fvalid = false ∧ t.narrow = false)

/-- Only CRC_BYTE reads the CRC register: what any other command does to the rest of the state does not depend on it, and it
either writes a CRC that does not depend on it or leaves it (41_checksum.md R137). -/
def Obligations.OnlyCrcByteReadsTheCrcRegister : Prop :=
  ∀ (i : Instr) (s t : State) (c : Half), isCommand i = true → i ≠ .crcByte → exec i s = .next t →
    exec i { s with crc := c } = .next t ∨
    (t.crc = s.crc ∧ exec i { s with crc := c } = .next { t with crc := c })

/-! ### Values -/

/-- `hexdigit` and `hex_N` as 00_scope.md R11 writes them: byte `i` is the digit of bits `4(N-1-i)+3 : 4(N-1-i)`. -/
def Obligations.HexRendering : Prop :=
  (∀ d : Nat, d ≤ 15 → hexDigit d =
    (([0x30, 0x31, 0x32, 0x33, 0x34, 0x35, 0x36, 0x37, 0x38, 0x39, 0x41, 0x42, 0x43, 0x44, 0x45, 0x46] : List Byte).getD
      d 0)) ∧
  (∀ n v : Nat, hexN n v = (List.range n).map (fun i => hexDigit ((v >>> (4 * (n - 1 - i))) % 16)))

/-- `nib` and `unhex` as 00_scope.md R12 writes them: a value exactly for strings of hex digits, the first most significant;
`a` to `f` count only with HEX_LOWER_OK = 1. -/
def Obligations.HexParsing : Prop :=
  (∀ (lower : Bool) (c : Byte), nib lower c =
    if 0x30 ≤ c.toNat ∧ c.toNat ≤ 0x39 then some (c.toNat - 0x30)
    else if 0x41 ≤ c.toNat ∧ c.toNat ≤ 0x46 then some (c.toNat - 0x37)
    else if lower = true ∧ 0x61 ≤ c.toNat ∧ c.toNat ≤ 0x66 then some (c.toNat - 0x57)
    else none) ∧
  (∀ (lower : Bool) (s : List Byte), unhex lower s = none ↔ ∃ c ∈ s, nib lower c = none) ∧
  (∀ (lower : Bool) (s : List Byte) (v : Nat), unhex lower s = some v →
    v = ((List.range s.length).map (fun i => (nib lower (s.getD i 0)).getD 0 * 16 ^ (s.length - 1 - i))).sum)

/-- Parsing what was rendered gives the value back, whatever HEX_LOWER_OK is, and the length is the width (00_scope.md R11,
R12). -/
def Obligations.UnhexOfHex : Prop :=
  ∀ (lower : Bool) (n v : Nat), v < 16 ^ n → (hexN n v).length = n ∧ unhex lower (hexN n v) = some v

/-- The step of the checksum as a shift register that takes the byte's bits most significant first (41_checksum.md R130: "each
byte enters most significant bit first"). -/
def Obligations.CrcStepIsBitSerial : Prop :=
  ∀ (c : Half) (b : Byte), crcStep c b =
    [7, 6, 5, 4, 3, 2, 1, 0].foldl
      (fun (acc : Half) (k : Nat) => if acc.getLsbD 15 ^^ b.getLsbD k then (acc <<< 1) ^^^ 0x1021 else acc <<< 1) c

/-- Chaining: the checksum of a concatenation starts from the checksum of its first part, the empty string has checksum 0,
and CRC_CLR then one CRC_BYTE for each byte leaves the checksum in CRC (41_checksum.md R138). -/
def Obligations.ChecksumChaining : Prop :=
  (∀ a b : List Byte, crc16 (a ++ b) = b.foldl crcStep (crc16 a)) ∧
  crc16 [] = 0 ∧
  (∀ (a : List Byte) (s : State), ∃ t,
    runInstrs (.crcClr :: a.flatMap (fun (b : Byte) => [.busOperandWrite .opa (b.setWidth 32), .crcByte])) s = some t ∧
      t.crc = crc16 a ∧ t.err = 0)

/-- Appending a string's own checksum, high byte first, gives a string with checksum 0 (41_checksum.md R130). -/
def Obligations.ChecksumResidueIsZero : Prop :=
  ∀ a : List Byte, crc16 (a ++ [(crc16 a).extractLsb' 8 8, (crc16 a).extractLsb' 0 8]) = 0

/-- Changing one byte of a string changes its checksum (41_checksum.md R130). -/
def Obligations.OneByteChangesTheChecksum : Prop :=
  ∀ (a d : List Byte) (x y : Byte), x ≠ y → crc16 (a ++ x :: d) ≠ crc16 (a ++ y :: d)

/-! ### Control and checksum commands -/

/-- The commands that take no operand and do the same in every state: NOP (45_control.md R210), CRC_CLR (41_checksum.md
R131), TX_CLR (42_assembler.md R150), RX_FLUSH, RX_CLOSE, RX_OPEN (43_reader.md R173 to R175), and RX_TIMEOUT, which empties
RX and raises Timeout (R176). -/
def Obligations.UnconditionalCommands : Prop :=
  (decodeCommand 0x00000000 = .ok .nop ∧ ∀ s : State, exec .nop s = .next { s with err := 0 }) ∧
  (decodeCommand 0x00000001 = .ok .crcClr ∧ ∀ s : State, exec .crcClr s = .next { s with crc := 0, err := 0 }) ∧
  (decodeCommand 0x00000010 = .ok .txClr ∧ ∀ s : State, exec .txClr s = .next { s with tx := [], err := 0 }) ∧
  (decodeCommand 0x00000021 = .ok .rxFlush ∧
    ∀ s : State, exec .rxFlush s = .next { s with rx := [], rxovf := false, err := 0 }) ∧
  (decodeCommand 0x00000022 = .ok .rxClose ∧ ∀ s : State, exec .rxClose s = .next { s with closed := true, err := 0 }) ∧
  (decodeCommand 0x00000023 = .ok .rxOpen ∧ ∀ s : State, exec .rxOpen s = .next { s with closed := false, err := 0 }) ∧
  (decodeCommand 0x00000024 = .ok .rxTimeout ∧
    ∀ s : State, exec .rxTimeout s = .next { s with rx := [], err := 5, errs := true })

/-- CRC_BYTE: one step of the checksum from the register, or EncodingError (41_checksum.md R132). -/
def Obligations.CrcByteSteps : Prop :=
  decodeCommand 0x00000002 = .ok .crcByte ∧
  (∀ s : State, s.opa.toNat ≤ 0xFF →
    exec .crcByte s = .next { s with crc := crcStep s.crc (s.opa.setWidth 8), err := 0 }) ∧
  (∀ s : State, 0xFF < s.opa.toNat → exec .crcByte s = .next { s with err := 1, errs := true })

/-- CRC_TX and CRC_FRM: the checksum of TX, and of a prefix of FRAME or MalformedField (41_checksum.md R133, R134). -/
def Obligations.CrcOfBuffers : Prop :=
  decodeCommand 0x00000003 = .ok .crcTx ∧
  (∀ s : State, exec .crcTx s = .next { s with crc := crc16 s.tx, err := 0 }) ∧
  (∀ n : Byte, decodeCommand (0x04 ||| (n.setWidth 32 <<< 8)) = .ok (.crcFrm n)) ∧
  (∀ (n : Byte) (s : State), n.toNat ≤ s.frame.length →
    exec (.crcFrm n) s = .next { s with crc := crc16 (s.frame.take n.toNat), err := 0 }) ∧
  (∀ (n : Byte) (s : State), s.frame.length < n.toNat → exec (.crcFrm n) s = .next { s with err := 2, errs := true })

/-- ENC_CRC appends the checksum of TX and leaves it in CRC, or raises TxOverflow (41_checksum.md R135). -/
def Obligations.EncCrcAppendsTheChecksum : Prop :=
  decodeCommand 0x00000016 = .ok .encCrc ∧
  (∀ s : State, s.tx.length + 4 ≤ s.params.txCap →
    exec .encCrc s = .next { s with tx := s.tx ++ hexN 4 (crc16 s.tx).toNat, crc := crc16 s.tx, err := 0 }) ∧
  (∀ s : State, s.params.txCap < s.tx.length + 4 → exec .encCrc s = .next { s with err := 9, errs := true })

/-! ### Encoders -/

/-- ENC_U8 and ENC_U16 (40_codec.md R101, R102): the range check first, then the append of 2 or 4 digits. -/
def Obligations.EncU8AndU16AppendTheirDigits : Prop :=
  ∀ row ∈ ([(0x00000012, .encU8, 2, 0xFF), (0x00000013, .encU16, 4, 0xFFFF)] : List (Word × Instr × Nat × Nat)),
    decodeCommand row.1 = .ok row.2.1 ∧
    (∀ s : State, s.opa.toNat ≤ row.2.2.2 → s.tx.length + row.2.2.1 ≤ s.params.txCap →
      exec row.2.1 s = .next { s with tx := s.tx ++ hexN row.2.2.1 s.opa.toNat, err := 0 }) ∧
    (∀ s : State, row.2.2.2 < s.opa.toNat → exec row.2.1 s = .next { s with err := 1, errs := true }) ∧
    (∀ s : State, s.opa.toNat ≤ row.2.2.2 → s.params.txCap < s.tx.length + row.2.2.1 →
      exec row.2.1 s = .next { s with err := 9, errs := true })

/-- ENC_F32 (40_codec.md R103): every pattern is rendered unchanged. -/
def Obligations.EncF32AppendsEightDigits : Prop :=
  decodeCommand 0x00000014 = .ok .encF32 ∧
  (∀ s : State, s.tx.length + 8 ≤ s.params.txCap →
    exec .encF32 s = .next { s with tx := s.tx ++ hexN 8 s.opa.toNat, err := 0 }) ∧
  (∀ s : State, s.params.txCap < s.tx.length + 8 → exec .encF32 s = .next { s with err := 9, errs := true })

/-- The commands that append fixed bytes: TX_CTL (42_assembler.md R151), ENC_TOK (40_codec.md R105), ENC_TERM
(42_assembler.md R152); a selector of 2 or more is IllegalCommand. -/
def Obligations.FixedByteAppends : Prop :=
  (decodeCommand 0x00000011 = .ok (.txCtl .host) ∧ decodeCommand 0x00000111 = .ok (.txCtl .device) ∧
    decodeCommand 0x00000015 = .ok (.encTok .vr) ∧ decodeCommand 0x00000115 = .ok (.encTok .vs) ∧
    decodeCommand 0x00000017 = .ok .encTerm) ∧
  (∀ (f : Byte) (s : State), 2 ≤ f.toNat →
    exec (.busCmdWrite (0x11 ||| (f.setWidth 32 <<< 8))) s = .next { s with err := 8, errs := true } ∧
    exec (.busCmdWrite (0x15 ||| (f.setWidth 32 <<< 8))) s = .next { s with err := 8, errs := true }) ∧
  (∀ row ∈ ([(.txCtl .host, [0x23]), (.txCtl .device, [0x21]), (.encTok .vr, [0x3F, 0x56, 0x52]),
      (.encTok .vs, [0x56, 0x53]), (.encTerm, [0x0D])] : List (Instr × List Byte)), ∀ s : State,
    (s.tx.length + row.2.length ≤ s.params.txCap → exec row.1 s = .next { s with tx := s.tx ++ row.2, err := 0 }) ∧
    (s.params.txCap < s.tx.length + row.2.length → exec row.1 s = .next { s with err := 9, errs := true }))

/-! ### Assembler -/

/-- ASM_VR (42_assembler.md R155): TX is replaced by the value-read frame and CRC by its checksum, or EncodingError. -/
def Obligations.AsmVrBuildsTheReadFrame : Prop :=
  decodeCommand 0x00000018 = .ok .asmVr ∧
  (∀ (s : State) (body : List Byte),
    s.addr.toNat ≤ 0xFF ∧ s.seq.toNat ≤ 0xFFFF ∧ s.param.toNat ≤ 0xFFFF ∧ s.inst.toNat ≤ 0xFF →
    body = [0x23] ++ hexN 2 s.addr.toNat ++ hexN 4 s.seq.toNat ++ [0x3F, 0x56, 0x52] ++ hexN 4 s.param.toNat
      ++ hexN 2 s.inst.toNat →
    exec .asmVr s = .next { s with tx := body ++ hexN 4 (crc16 body).toNat ++ [0x0D], crc := crc16 body, err := 0 } ∧
    (body ++ hexN 4 (crc16 body).toNat ++ [0x0D]).length = 21) ∧
  (∀ s : State, ¬ (s.addr.toNat ≤ 0xFF ∧ s.seq.toNat ≤ 0xFFFF ∧ s.param.toNat ≤ 0xFFFF ∧ s.inst.toNat ≤ 0xFF) →
    exec .asmVr s = .next { s with err := 1, errs := true })

/-- ASM_VS (42_assembler.md R156): the same with the token `VS` and the value. -/
def Obligations.AsmVsBuildsTheSetFrame : Prop :=
  decodeCommand 0x00000019 = .ok .asmVs ∧
  (∀ (s : State) (body : List Byte),
    s.addr.toNat ≤ 0xFF ∧ s.seq.toNat ≤ 0xFFFF ∧ s.param.toNat ≤ 0xFFFF ∧ s.inst.toNat ≤ 0xFF →
    body = [0x23] ++ hexN 2 s.addr.toNat ++ hexN 4 s.seq.toNat ++ [0x56, 0x53] ++ hexN 4 s.param.toNat
      ++ hexN 2 s.inst.toNat ++ hexN 8 s.value.toNat →
    exec .asmVs s = .next { s with tx := body ++ hexN 4 (crc16 body).toNat ++ [0x0D], crc := crc16 body, err := 0 } ∧
    (body ++ hexN 4 (crc16 body).toNat ++ [0x0D]).length = 28) ∧
  (∀ s : State, ¬ (s.addr.toNat ≤ 0xFF ∧ s.seq.toNat ≤ 0xFFFF ∧ s.param.toNat ≤ 0xFFFF ∧ s.inst.toNat ≤ 0xFF) →
    exec .asmVs s = .next { s with err := 1, errs := true })

/-- A frame ASM_VR or ASM_VS writes holds the terminator only at its last index, and its length is 21 or 28
(42_assembler.md R157). -/
def Obligations.AssembledFramesEndInTheOnlyTerminator : Prop :=
  ∀ (s t : State), t.err = 0 →
    (exec .asmVr s = .next t → t.tx.length = 21 ∧ ∀ k, k < 21 → (t.tx.getD k 0 = 0x0D ↔ k = 20)) ∧
    (exec .asmVs s = .next t → t.tx.length = 28 ∧ ∀ k, k < 28 → (t.tx.getD k 0 = 0x0D ↔ k = 27))

/-- ASM_VR and ASM_VS leave the TX and the CRC that the sequence of primitives leaves, and the sequence changes nothing else
but OPA (42_assembler.md R158). -/
def Obligations.AssemblerEqualsThePrimitives : Prop :=
  (∀ s : State, s.params.legal = true → rangeOk s = true →
    ∃ t, exec .asmVr s = .next t ∧
      runInstrs [.txClr, .txCtl .host, .busOperandWrite .opa s.addr, .encU8, .busOperandWrite .opa s.seq, .encU16,
        .encTok .vr, .busOperandWrite .opa s.param, .encU16, .busOperandWrite .opa s.inst, .encU8, .encCrc, .encTerm] s
        = some { t with opa := s.inst }) ∧
  (∀ s : State, s.params.legal = true → rangeOk s = true →
    ∃ t, exec .asmVs s = .next t ∧
      runInstrs [.txClr, .txCtl .host, .busOperandWrite .opa s.addr, .encU8, .busOperandWrite .opa s.seq, .encU16,
        .encTok .vs, .busOperandWrite .opa s.param, .encU16, .busOperandWrite .opa s.inst, .encU8,
        .busOperandWrite .opa s.value, .encF32, .encCrc, .encTerm] s
        = some { t with opa := s.value })

/-! ### Frame reader -/

/-- The RXDATA push (43_reader.md R171, 45_control.md R215): appended while there is room, else dropped with RXOVF set. -/
def Obligations.RxdataPush : Prop :=
  (∀ (s : State) (w : Word), s.rx.length < s.params.rxCap →
    exec (.busRxdataWrite w) s = .next { s with rx := s.rx ++ [w.setWidth 8] }) ∧
  (∀ (s : State) (w : Word), s.params.rxCap ≤ s.rx.length →
    exec (.busRxdataWrite w) s = .next { s with rxovf := true }) ∧
  (∀ (base : Nat) (w : Word), decodeAccess base (.write (base + 0x040) 4 w) = .ok (.run (.busRxdataWrite w)))

/-- RX_POP (43_reader.md R172): the bytes before the first terminator become FRAME, the remainder stays; with no terminator,
ConnectionClosed or WouldBlock. -/
def Obligations.RxPopExtractsTheFirstLine : Prop :=
  decodeCommand 0x00000020 = .ok .rxPop ∧
  (∀ (s : State) (line rest : List Byte), (0x0D : Byte) ∉ line → s.rx = line ++ 0x0D :: rest →
    exec .rxPop s = .next { s with frame := line, rx := rest, fvalid := true, err := 0 }) ∧
  (∀ s : State, (0x0D : Byte) ∉ s.rx → s.closed = true → exec .rxPop s = .next { s with err := 6, errs := true }) ∧
  (∀ s : State, (0x0D : Byte) ∉ s.rx → s.closed = false → exec .rxPop s = .next { s with err := 10 })

/-- Two frame lines come out in order; a line without its terminator yields nothing (with CLOSED = 0, which
43_reader.md R172 needs for WouldBlock) and comes out whole once the rest and the terminator are pushed (R177). -/
def Obligations.FrameLinesComeOutInOrder : Prop :=
  (∀ (s : State) (a b : List Byte), (0x0D : Byte) ∉ a → (0x0D : Byte) ∉ b → s.rx = a ++ 0x0D :: (b ++ [0x0D]) →
    ∃ t u, exec .rxPop s = .next t ∧ t.frame = a ∧ exec .rxPop t = .next u ∧ u.frame = b ∧ u.rx = []) ∧
  (∀ (s : State) (c : List Byte), (0x0D : Byte) ∉ s.rx → (0x0D : Byte) ∉ c → s.closed = false →
    s.rx.length + c.length + 1 ≤ s.params.rxCap →
    exec .rxPop s = .next { s with err := 10 } ∧
    runInstrs ((c ++ [0x0D]).map (fun (b : Byte) => .busRxdataWrite (b.setWidth 32)) ++ [.rxPop]) s
      = some { s with frame := s.rx ++ c, rx := [], fvalid := true, err := 0 })

/-- Over any run without RX_FLUSH and RX_TIMEOUT, the frame lines delivered, each with its terminator, and then RX are what
RX held and the bytes accepted, in order (43_reader.md R178). -/
def Obligations.PushedBytesLeaveInOrder : Prop :=
  ∀ (is : List Instr) (s u : State) (acc del : List Byte),
    (∀ i ∈ is, performed i ≠ some .rxFlush ∧ performed i ≠ some .rxTimeout) →
    readerTrace is s = some (u, acc, del) → del ++ u.rx = s.rx ++ acc

/-! ### Decoders -/

/-- DEC_U8, DEC_U16 and DEC_F32 (40_codec.md R106, R110 to R112): the field's value, or MalformedField when bytes are missing
or a character is no hex digit. -/
def Obligations.DecodeFieldCommands : Prop :=
  ∀ row ∈ ([(0x30, Instr.decU8, 2), (0x31, Instr.decU16, 4), (0x32, Instr.decF32, 8)] : List (Word × (Byte → Instr) × Nat)),
    (∀ off : Byte, decodeCommand (row.1 ||| (off.setWidth 32 <<< 8)) = .ok (row.2.1 off)) ∧
    (∀ (off : Byte) (s : State) (v : Nat), off.toNat + row.2.2 ≤ s.frame.length →
      unhex s.params.hexLowerOk ((s.frame.drop off.toNat).take row.2.2) = some v →
      exec (row.2.1 off) s = .next { s with res := BitVec.ofNat 32 v, err := 0 }) ∧
    (∀ (off : Byte) (s : State), s.frame.length < off.toNat + row.2.2 →
      exec (row.2.1 off) s = .next { s with err := 2, errs := true }) ∧
    (∀ (off : Byte) (s : State), off.toNat + row.2.2 ≤ s.frame.length →
      unhex s.params.hexLowerOk ((s.frame.drop off.toNat).take row.2.2) = none →
      exec (row.2.1 off) s = .next { s with err := 2, errs := true })

/-- DEC_TOK (40_codec.md R113): the token that is a prefix of the frame line from `off`, or UnknownCommand. -/
def Obligations.DecodeTokenCommand : Prop :=
  (∀ off : Byte, decodeCommand (0x33 ||| (off.setWidth 32 <<< 8)) = .ok (.decTok off)) ∧
  (∀ (off : Byte) (s : State), ([0x3F, 0x56, 0x52] : List Byte) <+: s.frame.drop off.toNat →
    exec (.decTok off) s = .next { s with res := 0, err := 0 }) ∧
  (∀ (off : Byte) (s : State), ([0x56, 0x53] : List Byte) <+: s.frame.drop off.toNat →
    exec (.decTok off) s = .next { s with res := 1, err := 0 }) ∧
  (∀ (off : Byte) (s : State), ¬ ([0x3F, 0x56, 0x52] : List Byte) <+: s.frame.drop off.toNat →
    ¬ ([0x56, 0x53] : List Byte) <+: s.frame.drop off.toNat →
    exec (.decTok off) s = .next { s with err := 3, errs := true })

/-- Encoding then decoding gives the value back (40_codec.md R114): the characters an encoder appended, anywhere in a frame
line, decode to OPA. -/
def Obligations.EncodeThenDecodeRoundTrip : Prop :=
  ∀ row ∈ ([(.encU8, Instr.decU8, 2), (.encU16, Instr.decU16, 4), (.encF32, Instr.decF32, 8)] :
      List (Instr × (Byte → Instr) × Nat)),
    ∀ s : State, s.opa.toNat < 16 ^ row.2.2 → s.tx.length + row.2.2 ≤ s.params.txCap →
      ∃ t, exec row.1 s = .next t ∧ t.err = 0 ∧
        ∀ (u : State) (before after : List Byte) (off : Byte), before.length = off.toNat →
          u.frame = before ++ t.tx.drop s.tx.length ++ after →
          exec (row.2.1 off) u = .next { u with res := s.opa, err := 0 }

/-! ### Response decoder -/

/-- The checks of `rsp_parse()` in the order of 44_response.md R191, for RSP_F32 and RSP_U16 alike; each clause supposes the
earlier checks passed. -/
def Obligations.ResponseChecksInOrder : Prop :=
  ∀ i ∈ [Instr.rspF32, Instr.rspU16], ∀ (s : State) (n : Nat), n = s.frame.length →
    (n < 7 → exec i s = .next { s with err := 2, errs := true }) ∧
    (7 ≤ n →
      (s.params.strictControl = true ∧ s.frame.head? ≠ some 0x21 → exec i s = .next { s with err := 2, errs := true }) ∧
      ((s.params.strictControl = true → s.frame.head? = some 0x21) →
        ((unhex s.params.hexLowerOk ((s.frame.drop 1).take 2) = none ∨
            unhex s.params.hexLowerOk ((s.frame.drop 3).take 4) = none) →
          exec i s = .next { s with err := 2, errs := true }) ∧
        (∀ a q, unhex s.params.hexLowerOk ((s.frame.drop 1).take 2) = some a →
          unhex s.params.hexLowerOk ((s.frame.drop 3).take 4) = some q →
          (n - 7 < 12 → exec i s = .next { s with err := 4, errs := true }) ∧
          (19 ≤ n →
            (unhex s.params.hexLowerOk (s.frame.drop (n - 4)) = none →
              exec i s = .next { s with err := 2, errs := true }) ∧
            (∀ c, unhex s.params.hexLowerOk (s.frame.drop (n - 4)) = some c →
              ((crc16 (s.frame.take (n - 4))).toNat ≠ c → exec i s = .next { s with err := 7, errs := true }) ∧
              ((crc16 (s.frame.take (n - 4))).toNat = c →
                (unhex s.params.hexLowerOk ((s.frame.drop 7).take 8) = none →
                  exec i s = .next { s with err := 2, errs := true }) ∧
                (∀ v, unhex s.params.hexLowerOk ((s.frame.drop 7).take 8) = some v →
                  ∃ t, exec i s = .next t ∧ t.err = 0 ∧ t.rctl = s.frame.getD 0 0 ∧ t.raddr.toNat = a ∧
                    t.rseq.toNat = q ∧ t.crc.toNat = c ∧
                    t.res.toNat = if i = .rspF32 then v else v % 2 ^ 16)))))))

/-- RSP_F32 and RSP_U16 on a well-formed response line of any header, value and further characters (44_response.md R190,
R195, R196; 30_encoding.md R80). -/
def Obligations.ResponseLinesDecode : Prop :=
  (decodeCommand 0x00000034 = .ok .rspF32 ∧ decodeCommand 0x00000035 = .ok .rspU16) ∧
  (∀ (s : State) (ctl a : Byte) (q : Half) (v : Word) (ext : List Byte),
    s.frame = responseLine ctl a q v ext → (s.params.strictControl = true → ctl = 0x21) →
    exec .rspF32 s = .next { s with
      rctl := ctl, raddr := a, rseq := q, crc := crc16 (responseBody ctl a q v ext), res := v, err := 0 } ∧
    exec .rspU16 s = .next { s with
      rctl := ctl, raddr := a, rseq := q, crc := crc16 (responseBody ctl a q v ext),
      res := v &&& 0x0000FFFF, narrow := decide (2 ^ 16 ≤ v.toNat), err := 0 })

/-- RSP_U16 fails exactly as RSP_F32 does, and when RSP_F32 succeeds it differs only in RES, narrowed to 16 bits, and in
NARROW (44_response.md R196). -/
def Obligations.RspU16NarrowsRspF32 : Prop :=
  ∀ s t : State, exec .rspF32 s = .next t →
    (t.err ≠ 0 → exec .rspU16 s = .next t) ∧
    (t.err = 0 → exec .rspU16 s = .next { t with res := t.res &&& 0x0000FFFF, narrow := decide (t.res >>> 16 ≠ 0) })

/-- A response that decodes no longer does once any one byte of its body is changed (44_response.md R193). -/
def Obligations.CorruptedResponseIsRejected : Prop :=
  ∀ (s t : State) (before after : List Byte) (x y : Byte), exec .rspF32 s = .next t → t.err = 0 →
    s.frame = before ++ x :: after → 4 ≤ after.length → x ≠ y →
    ∃ u, exec .rspF32 { s with frame := before ++ y :: after } = .next u ∧ isErrorCode u.err = true ∧ u.res = s.res

/-! ### Bus -/

/-- A write to an operand register stores all 32 bits and changes nothing else (45_control.md R212). -/
def Obligations.OperandWriteStores : Prop :=
  (∀ (s : State) (v : Word),
    exec (.busOperandWrite .opa v) s = .next { s with opa := v } ∧
    exec (.busOperandWrite .addr v) s = .next { s with addr := v } ∧
    exec (.busOperandWrite .seq v) s = .next { s with seq := v } ∧
    exec (.busOperandWrite .param v) s = .next { s with param := v } ∧
    exec (.busOperandWrite .inst v) s = .next { s with inst := v } ∧
    exec (.busOperandWrite .value v) s = .next { s with value := v }) ∧
  (∀ (base : Nat) (v : Word), ∀ row ∈ ([(0x008, .opa), (0x00C, .addr), (0x010, .seq), (0x014, .param), (0x018, .inst),
      (0x01C, .value)] : List (Nat × OperandReg)),
    decodeAccess base (.write (base + row.1) 4 v) = .ok (.run (.busOperandWrite row.2 v)))

/-- A write to STATUS clears ERRS when bit 4 is set and changes nothing else (45_control.md R213). -/
def Obligations.StatusWriteClearsErrs : Prop :=
  (∀ (s : State) (v : Word), v.getLsbD 4 = true → exec (.busStatusWrite v) s = .next { s with errs := false }) ∧
  (∀ (s : State) (v : Word), v.getLsbD 4 = false → exec (.busStatusWrite v) s = .next s) ∧
  (∀ (base : Nat) (v : Word), decodeAccess base (.write (base + 0x004) 4 v) = .ok (.run (.busStatusWrite v)))

/-- What a read of each listed register returns (20_memory.md R55; 10_state.md R21 to R37): the block does not change, the
value goes to the host, which the model shows in `readData` (log 3). STATUS, CFG and the windows have statements of their own. -/
def Obligations.RegisterReads : Prop :=
  ∀ s : State, ∀ row ∈ ([(0x008, s.opa), (0x00C, s.addr), (0x010, s.seq), (0x014, s.param), (0x018, s.inst),
      (0x01C, s.value), (0x020, s.res), (0x024, BitVec.ofNat 32 s.crc.toNat), (0x028, BitVec.ofNat 32 s.rctl.toNat),
      (0x02C, BitVec.ofNat 32 s.raddr.toNat), (0x030, BitVec.ofNat 32 s.rseq.toNat),
      (0x034, BitVec.ofNat 32 s.tx.length), (0x038, BitVec.ofNat 32 s.rx.length),
      (0x03C, BitVec.ofNat 32 s.frame.length)] : List (Nat × Word)),
    exec (.busRead row.1) s = .next { s with readData := some row.2 }

/-- Every read of an aligned offset completes and changes nothing of the block: only the data returned (`readData`, log 3)
differs, and a second read leaves the same (20_memory.md R53, 45_control.md R214). That exec of an ill-formed BUS_READ, which
step never runs, stops as the access itself would is a DESIGN CHOICE (log 15): an unaligned offset with the refusal of R51,
whose name is log 6's, an offset of 0x1000 or more, outside the register space of R50, with the fault of log 7. -/
def Obligations.ReadsChangeNothing : Prop :=
  (∀ (s : State) (off : Nat), off < 0x1000 → off % 4 = 0 →
    ∃ v, exec (.busRead off) s = .next { s with readData := some v } ∧
      exec (.busRead off) { s with readData := some v } = .next { s with readData := some v }) ∧
  (∀ (s : State) (off : Nat), off < 0x1000 → off % 4 ≠ 0 → exec (.busRead off) s = .refused .unalignedAccess) ∧
  (∀ (s : State) (off : Nat), 0x1000 ≤ off → exec (.busRead off) s = .fault .outsideRegisterSpace)

/-- The layout of STATUS, bit by bit (10_state.md R38, with R41 and R46); `readData` shows what the host got (log 3). -/
def Obligations.StatusLayout : Prop :=
  ∀ s : State, ∃ v : Word, exec (.busRead 0x004) s = .next { s with readData := some v } ∧
    v.extractLsb' 0 4 = s.err ∧ v.getLsbD 4 = s.errs ∧ v.extractLsb' 5 3 = 0 ∧
    v.getLsbD 8 = decide (∃ i, i < s.rx.length ∧ s.rx.getD i 0 = 0x0D) ∧ v.getLsbD 9 = s.rxovf ∧
    v.getLsbD 10 = s.closed ∧ v.getLsbD 11 = s.fvalid ∧ v.getLsbD 12 = s.narrow ∧
    v.getLsbD 13 = decide (s.rx.length = s.params.rxCap) ∧ v.extractLsb' 14 18 = 0

/-- CFG reports the parameters (10_state.md R47) when they are legal (00_scope.md R7); `readData` shows what the host got (log
3), `params` is the model's field for the parameters (log 4). -/
def Obligations.CfgReportsTheParameters : Prop :=
  (∀ s : State, s.params.legal = true → ∃ v : Word, exec (.busRead 0x044) s = .next { s with readData := some v } ∧
    v.getLsbD 0 = s.params.hexLowerOk ∧ v.getLsbD 1 = s.params.strictControl ∧ v.extractLsb' 2 6 = 0 ∧
    (v.extractLsb' 8 8).toNat = s.params.txCap ∧ (v.extractLsb' 16 16).toNat = s.params.rxCap) ∧
  (∀ s : State, s.params = Params.default → exec (.busRead 0x044) s = .next { s with readData := some 0x01004003 })

/-- The TXBUF and FRAME windows (20_memory.md R57, R58): byte `4k + j` of the string in bits `8j+7 : 8j`, 0 past its end;
writes have no effect; `readData` shows what the host got (log 3). -/
def Obligations.BufferWindows : Prop :=
  (∀ (s : State) (k j : Nat), k ≤ 63 → j ≤ 3 →
    (∃ v : Word, exec (.busRead (0x100 + 4 * k)) s = .next { s with readData := some v } ∧
      v.extractLsb' (8 * j) 8 = if h : 4 * k + j < s.tx.length then s.tx[4 * k + j] else 0) ∧
    (∃ v : Word, exec (.busRead (0x200 + 4 * k)) s = .next { s with readData := some v } ∧
      v.extractLsb' (8 * j) 8 = if h : 4 * k + j < s.frame.length then s.frame[4 * k + j] else 0)) ∧
  (∀ (base k : Nat) (w : Word), k ≤ 63 →
    decodeAccess base (.write (base + 0x100 + 4 * k) 4 w) = .ok .noEffect ∧
    decodeAccess base (.write (base + 0x200 + 4 * k) 4 w) = .ok .noEffect)

/-! ### Reset -/

/-- A reset sets every piece of the block's state to the value of 70_reset_and_hazards.md R260, the parameters stay (R261),
and STATUS reads 0 afterwards; the reset state is that state with the default parameters. That the event is one pulse and
leaves the host's side alone is the model's choice (log 8). -/
def Obligations.ResetValues : Prop :=
  (∀ (s : State) (rest : List HostEvent), s.pending = .reset :: rest →
    step s = .next
      { opa := 0, addr := 0, seq := 0, param := 0, inst := 0, value := 0, res := 0, crc := 0, rctl := 0, raddr := 0,
        rseq := 0, err := 0, errs := false, rxovf := false, closed := false, fvalid := false, narrow := false,
        tx := [], rx := [], frame := [], params := s.params, pending := rest, readData := s.readData }) ∧
  (∀ s : State, s.pending = [.reset] → s.params.legal = true →
    ∃ t u, step s = .next t ∧ exec (.busRead 0x004) t = .next u ∧ u.readData = some 0) ∧
  (∀ s : State, s.pending = [.reset] → s.params = Params.default → s.readData = none → step s = .next State.reset)

/-- No step changes the parameters (70_reset_and_hazards.md R261; that they stand in State is the model's choice, log 4). -/
def Obligations.ParametersNeverChange : Prop :=
  ∀ s t : State, step s = .next t → t.params = s.params

/-- The clean-up without reset: RX_FLUSH, RX_OPEN, TX_CLR, CRC_CLR and clearing ERRS; RES, RCTL, RADDR, RSEQ, FRAME, FVALID
and NARROW keep their values (70_reset_and_hazards.md R262). -/
def Obligations.CleanUpWithoutReset : Prop :=
  ∀ s : State, runInstrs [.rxFlush, .rxOpen, .txClr, .crcClr, .busStatusWrite 0x00000010] s =
    some { s with rx := [], rxovf := false, closed := false, tx := [], crc := 0, err := 0, errs := false }
end

