-- ==== Sys2Proof/Laws/Codec.lean ====
section
/-! SUPPORT. Small lemmas of the byte-string and codec functions. -/

namespace Sys2Proof.Machine

@[simp] theorem hexN_length (n v : Nat) : (hexN n v).length = n := by
  induction n with
  | zero => rfl
  | succ n ih => simp [hexN, ih]

@[simp] theorem unhex_nil (lower : Bool) : unhex lower [] = some 0 := rfl

@[simp] theorem unhexFrom_nil (lower : Bool) (acc : Nat) : unhexFrom lower acc [] = some acc := rfl

theorem unhexFrom_cons (lower : Bool) (acc : Nat) (c : Byte) (cs : List Byte) :
    unhexFrom lower acc (c :: cs) = (nib lower c).bind (fun d => unhexFrom lower (acc * 16 + d) cs) := by
  cases h : nib lower c <;> simp [unhexFrom, h]

/-- A rendered digit is parsed as its value, whatever HEX_LOWER_OK is (00_scope.md R11, R12). -/
theorem nib_hexDigit (lower : Bool) (d : Nat) (h : d < 16) : nib lower (hexDigit d) = some d := by
  have key : ∀ (l : Bool) (k : Fin 16), nib l (hexDigit k.val) = some k.val := by decide
  exact key lower ⟨d, h⟩

/-- No rendered digit is the terminator (30_encoding.md R81). -/
theorem hexDigit_ne_cr (d : Nat) (h : d < 16) : hexDigit d ≠ charCR := by
  have key : ∀ k : Fin 16, hexDigit k.val ≠ charCR := by decide
  exact key ⟨d, h⟩

/-- A split gives the bytes before the first terminator and the bytes after it (43_reader.md R172). -/
theorem splitAtCR_some {s line rest : List Byte} (h : splitAtCR s = some (line, rest)) :
    s = line ++ charCR :: rest ∧ charCR ∉ line := by
  induction s generalizing line with
  | nil => simp [splitAtCR] at h
  | cons c cs ih =>
    by_cases hc : c = charCR
    · simp only [splitAtCR, if_pos hc, Option.some.injEq, Prod.mk.injEq] at h
      obtain ⟨rfl, rfl⟩ := h
      simp [hc]
    · cases hs : splitAtCR cs with
      | none => simp [splitAtCR, hc, hs] at h
      | some p =>
        obtain ⟨l, r⟩ := p
        simp only [splitAtCR, if_neg hc, hs, Option.some.injEq, Prod.mk.injEq] at h
        obtain ⟨rfl, rfl⟩ := h
        obtain ⟨e, hn⟩ := ih hs
        exact ⟨by rw [e, List.cons_append], by simp [hn, Ne.symm hc]⟩

/-- There is no split exactly when there is no terminator. -/
theorem splitAtCR_none_iff (s : List Byte) : splitAtCR s = none ↔ charCR ∉ s := by
  induction s with
  | nil => simp [splitAtCR]
  | cons c cs ih =>
    by_cases hc : c = charCR
    · simp [splitAtCR, hc]
    · cases hs : splitAtCR cs with
      | none =>
        have := ih.1 hs
        simp [splitAtCR, hc, hs, this, Ne.symm hc]
      | some p =>
        have : ¬ charCR ∉ cs := fun hn => by simp [ih.2 hn] at hs
        simp [splitAtCR, hc, hs] at this ⊢
        simp [this]

@[simp] theorem crc16_nil : crc16 [] = 0 := rfl

/-- A successful parse: every check of 44_response.md R191 passed, and the fields are those it names. -/
theorem parseTail_ok {lower : Bool} {frame : List Byte} {ctl : Byte} {a q : Nat} {r : Response}
    (h : parseTail lower frame ctl a q = .ok r) :
    ∃ c v, unhex lower (slice frame (frame.length - 4) frame.length) = some c ∧
      (crc16 (slice frame 0 (frame.length - 4))).toNat = c ∧ unhex lower (slice frame 7 15) = some v ∧
      r = { ctl := ctl, addr := BitVec.ofNat 8 a, seq := BitVec.ofNat 16 q, value := BitVec.ofNat 32 v,
            crc := BitVec.ofNat 16 c } := by
  unfold parseTail at h
  split at h
  · cases h
  · rename_i c hc
    split at h
    · cases h
    · rename_i hne
      split at h
      · cases h
      · rename_i v hv
        cases h
        exact ⟨c, v, hc, by simpa using hne, hv, rfl⟩

/-- A successful parse of a frame line (R191). -/
theorem parseResponse_ok {p : Params} {frame : List Byte} {r : Response} (h : parseResponse p frame = .ok r) :
    19 ≤ frame.length ∧ (p.strictControl = true → frame.getD 0 0 = charBang) ∧
      ∃ a q, unhex p.hexLowerOk (slice frame 1 3) = some a ∧ unhex p.hexLowerOk (slice frame 3 7) = some q ∧
        parseTail p.hexLowerOk frame (frame.getD 0 0) a q = .ok r := by
  unfold parseResponse at h
  split at h
  · cases h
  · split at h
    · cases h
    · rename_i hctl
      split at h
      · rename_i a q ha hq
        split at h
        · cases h
        · refine ⟨by omega, fun hs => ?_, a, q, ha, hq, h⟩
          by_contra hne
          exact hctl ⟨hs, hne⟩
      · cases h

end Sys2Proof.Machine
end

