-- ==== Sys2Proof/Laws/State.lean ====
section
/-! SUPPORT. One lemma for each field and each update of the state, so that no proof unfolds a record update. -/

namespace Sys2Proof.Machine

/-! ### withRes -/

@[simp] theorem State.withRes_opa (s : State) (v : Word) : (s.withRes v).opa = s.opa := rfl
@[simp] theorem State.withRes_addr (s : State) (v : Word) : (s.withRes v).addr = s.addr := rfl
@[simp] theorem State.withRes_seq (s : State) (v : Word) : (s.withRes v).seq = s.seq := rfl
@[simp] theorem State.withRes_param (s : State) (v : Word) : (s.withRes v).param = s.param := rfl
@[simp] theorem State.withRes_inst (s : State) (v : Word) : (s.withRes v).inst = s.inst := rfl
@[simp] theorem State.withRes_value (s : State) (v : Word) : (s.withRes v).value = s.value := rfl
@[simp] theorem State.withRes_res (s : State) (v : Word) : (s.withRes v).res = v := rfl
@[simp] theorem State.withRes_crc (s : State) (v : Word) : (s.withRes v).crc = s.crc := rfl
@[simp] theorem State.withRes_rctl (s : State) (v : Word) : (s.withRes v).rctl = s.rctl := rfl
@[simp] theorem State.withRes_raddr (s : State) (v : Word) : (s.withRes v).raddr = s.raddr := rfl
@[simp] theorem State.withRes_rseq (s : State) (v : Word) : (s.withRes v).rseq = s.rseq := rfl
@[simp] theorem State.withRes_err (s : State) (v : Word) : (s.withRes v).err = s.err := rfl
@[simp] theorem State.withRes_errs (s : State) (v : Word) : (s.withRes v).errs = s.errs := rfl
@[simp] theorem State.withRes_rxovf (s : State) (v : Word) : (s.withRes v).rxovf = s.rxovf := rfl
@[simp] theorem State.withRes_closed (s : State) (v : Word) : (s.withRes v).closed = s.closed := rfl
@[simp] theorem State.withRes_fvalid (s : State) (v : Word) : (s.withRes v).fvalid = s.fvalid := rfl
@[simp] theorem State.withRes_narrow (s : State) (v : Word) : (s.withRes v).narrow = s.narrow := rfl
@[simp] theorem State.withRes_tx (s : State) (v : Word) : (s.withRes v).tx = s.tx := rfl
@[simp] theorem State.withRes_rx (s : State) (v : Word) : (s.withRes v).rx = s.rx := rfl
@[simp] theorem State.withRes_frame (s : State) (v : Word) : (s.withRes v).frame = s.frame := rfl
@[simp] theorem State.withRes_params (s : State) (v : Word) : (s.withRes v).params = s.params := rfl
@[simp] theorem State.withRes_pending (s : State) (v : Word) : (s.withRes v).pending = s.pending := rfl
@[simp] theorem State.withRes_readData (s : State) (v : Word) : (s.withRes v).readData = s.readData := rfl

/-! ### withCrc -/

@[simp] theorem State.withCrc_opa (s : State) (c : Half) : (s.withCrc c).opa = s.opa := rfl
@[simp] theorem State.withCrc_addr (s : State) (c : Half) : (s.withCrc c).addr = s.addr := rfl
@[simp] theorem State.withCrc_seq (s : State) (c : Half) : (s.withCrc c).seq = s.seq := rfl
@[simp] theorem State.withCrc_param (s : State) (c : Half) : (s.withCrc c).param = s.param := rfl
@[simp] theorem State.withCrc_inst (s : State) (c : Half) : (s.withCrc c).inst = s.inst := rfl
@[simp] theorem State.withCrc_value (s : State) (c : Half) : (s.withCrc c).value = s.value := rfl
@[simp] theorem State.withCrc_res (s : State) (c : Half) : (s.withCrc c).res = s.res := rfl
@[simp] theorem State.withCrc_crc (s : State) (c : Half) : (s.withCrc c).crc = c := rfl
@[simp] theorem State.withCrc_rctl (s : State) (c : Half) : (s.withCrc c).rctl = s.rctl := rfl
@[simp] theorem State.withCrc_raddr (s : State) (c : Half) : (s.withCrc c).raddr = s.raddr := rfl
@[simp] theorem State.withCrc_rseq (s : State) (c : Half) : (s.withCrc c).rseq = s.rseq := rfl
@[simp] theorem State.withCrc_err (s : State) (c : Half) : (s.withCrc c).err = s.err := rfl
@[simp] theorem State.withCrc_errs (s : State) (c : Half) : (s.withCrc c).errs = s.errs := rfl
@[simp] theorem State.withCrc_rxovf (s : State) (c : Half) : (s.withCrc c).rxovf = s.rxovf := rfl
@[simp] theorem State.withCrc_closed (s : State) (c : Half) : (s.withCrc c).closed = s.closed := rfl
@[simp] theorem State.withCrc_fvalid (s : State) (c : Half) : (s.withCrc c).fvalid = s.fvalid := rfl
@[simp] theorem State.withCrc_narrow (s : State) (c : Half) : (s.withCrc c).narrow = s.narrow := rfl
@[simp] theorem State.withCrc_tx (s : State) (c : Half) : (s.withCrc c).tx = s.tx := rfl
@[simp] theorem State.withCrc_rx (s : State) (c : Half) : (s.withCrc c).rx = s.rx := rfl
@[simp] theorem State.withCrc_frame (s : State) (c : Half) : (s.withCrc c).frame = s.frame := rfl
@[simp] theorem State.withCrc_params (s : State) (c : Half) : (s.withCrc c).params = s.params := rfl
@[simp] theorem State.withCrc_pending (s : State) (c : Half) : (s.withCrc c).pending = s.pending := rfl
@[simp] theorem State.withCrc_readData (s : State) (c : Half) : (s.withCrc c).readData = s.readData := rfl

/-! ### withHeader -/

@[simp] theorem State.withHeader_opa (s : State) (ctl a : Byte) (q c : Half) : (s.withHeader ctl a q c).opa = s.opa := rfl
@[simp] theorem State.withHeader_addr (s : State) (ctl a : Byte) (q c : Half) : (s.withHeader ctl a q c).addr = s.addr := rfl
@[simp] theorem State.withHeader_seq (s : State) (ctl a : Byte) (q c : Half) : (s.withHeader ctl a q c).seq = s.seq := rfl
@[simp] theorem State.withHeader_param (s : State) (ctl a : Byte) (q c : Half) : (s.withHeader ctl a q c).param = s.param := rfl
@[simp] theorem State.withHeader_inst (s : State) (ctl a : Byte) (q c : Half) : (s.withHeader ctl a q c).inst = s.inst := rfl
@[simp] theorem State.withHeader_value (s : State) (ctl a : Byte) (q c : Half) : (s.withHeader ctl a q c).value = s.value := rfl
@[simp] theorem State.withHeader_res (s : State) (ctl a : Byte) (q c : Half) : (s.withHeader ctl a q c).res = s.res := rfl
@[simp] theorem State.withHeader_crc (s : State) (ctl a : Byte) (q c : Half) : (s.withHeader ctl a q c).crc = c := rfl
@[simp] theorem State.withHeader_rctl (s : State) (ctl a : Byte) (q c : Half) : (s.withHeader ctl a q c).rctl = ctl := rfl
@[simp] theorem State.withHeader_raddr (s : State) (ctl a : Byte) (q c : Half) : (s.withHeader ctl a q c).raddr = a := rfl
@[simp] theorem State.withHeader_rseq (s : State) (ctl a : Byte) (q c : Half) : (s.withHeader ctl a q c).rseq = q := rfl
@[simp] theorem State.withHeader_err (s : State) (ctl a : Byte) (q c : Half) : (s.withHeader ctl a q c).err = s.err := rfl
@[simp] theorem State.withHeader_errs (s : State) (ctl a : Byte) (q c : Half) : (s.withHeader ctl a q c).errs = s.errs := rfl
@[simp] theorem State.withHeader_rxovf (s : State) (ctl a : Byte) (q c : Half) : (s.withHeader ctl a q c).rxovf = s.rxovf := rfl
@[simp] theorem State.withHeader_closed (s : State) (ctl a : Byte) (q c : Half) : (s.withHeader ctl a q c).closed = s.closed := rfl
@[simp] theorem State.withHeader_fvalid (s : State) (ctl a : Byte) (q c : Half) : (s.withHeader ctl a q c).fvalid = s.fvalid := rfl
@[simp] theorem State.withHeader_narrow (s : State) (ctl a : Byte) (q c : Half) : (s.withHeader ctl a q c).narrow = s.narrow := rfl
@[simp] theorem State.withHeader_tx (s : State) (ctl a : Byte) (q c : Half) : (s.withHeader ctl a q c).tx = s.tx := rfl
@[simp] theorem State.withHeader_rx (s : State) (ctl a : Byte) (q c : Half) : (s.withHeader ctl a q c).rx = s.rx := rfl
@[simp] theorem State.withHeader_frame (s : State) (ctl a : Byte) (q c : Half) : (s.withHeader ctl a q c).frame = s.frame := rfl
@[simp] theorem State.withHeader_params (s : State) (ctl a : Byte) (q c : Half) : (s.withHeader ctl a q c).params = s.params := rfl
@[simp] theorem State.withHeader_pending (s : State) (ctl a : Byte) (q c : Half) : (s.withHeader ctl a q c).pending = s.pending := rfl
@[simp] theorem State.withHeader_readData (s : State) (ctl a : Byte) (q c : Half) : (s.withHeader ctl a q c).readData = s.readData := rfl

/-! ### withNarrow -/

@[simp] theorem State.withNarrow_opa (s : State) (b : Bool) : (s.withNarrow b).opa = s.opa := rfl
@[simp] theorem State.withNarrow_addr (s : State) (b : Bool) : (s.withNarrow b).addr = s.addr := rfl
@[simp] theorem State.withNarrow_seq (s : State) (b : Bool) : (s.withNarrow b).seq = s.seq := rfl
@[simp] theorem State.withNarrow_param (s : State) (b : Bool) : (s.withNarrow b).param = s.param := rfl
@[simp] theorem State.withNarrow_inst (s : State) (b : Bool) : (s.withNarrow b).inst = s.inst := rfl
@[simp] theorem State.withNarrow_value (s : State) (b : Bool) : (s.withNarrow b).value = s.value := rfl
@[simp] theorem State.withNarrow_res (s : State) (b : Bool) : (s.withNarrow b).res = s.res := rfl
@[simp] theorem State.withNarrow_crc (s : State) (b : Bool) : (s.withNarrow b).crc = s.crc := rfl
@[simp] theorem State.withNarrow_rctl (s : State) (b : Bool) : (s.withNarrow b).rctl = s.rctl := rfl
@[simp] theorem State.withNarrow_raddr (s : State) (b : Bool) : (s.withNarrow b).raddr = s.raddr := rfl
@[simp] theorem State.withNarrow_rseq (s : State) (b : Bool) : (s.withNarrow b).rseq = s.rseq := rfl
@[simp] theorem State.withNarrow_err (s : State) (b : Bool) : (s.withNarrow b).err = s.err := rfl
@[simp] theorem State.withNarrow_errs (s : State) (b : Bool) : (s.withNarrow b).errs = s.errs := rfl
@[simp] theorem State.withNarrow_rxovf (s : State) (b : Bool) : (s.withNarrow b).rxovf = s.rxovf := rfl
@[simp] theorem State.withNarrow_closed (s : State) (b : Bool) : (s.withNarrow b).closed = s.closed := rfl
@[simp] theorem State.withNarrow_fvalid (s : State) (b : Bool) : (s.withNarrow b).fvalid = s.fvalid := rfl
@[simp] theorem State.withNarrow_narrow (s : State) (b : Bool) : (s.withNarrow b).narrow = b := rfl
@[simp] theorem State.withNarrow_tx (s : State) (b : Bool) : (s.withNarrow b).tx = s.tx := rfl
@[simp] theorem State.withNarrow_rx (s : State) (b : Bool) : (s.withNarrow b).rx = s.rx := rfl
@[simp] theorem State.withNarrow_frame (s : State) (b : Bool) : (s.withNarrow b).frame = s.frame := rfl
@[simp] theorem State.withNarrow_params (s : State) (b : Bool) : (s.withNarrow b).params = s.params := rfl
@[simp] theorem State.withNarrow_pending (s : State) (b : Bool) : (s.withNarrow b).pending = s.pending := rfl
@[simp] theorem State.withNarrow_readData (s : State) (b : Bool) : (s.withNarrow b).readData = s.readData := rfl

/-! ### withErrs -/

@[simp] theorem State.withErrs_opa (s : State) (b : Bool) : (s.withErrs b).opa = s.opa := rfl
@[simp] theorem State.withErrs_addr (s : State) (b : Bool) : (s.withErrs b).addr = s.addr := rfl
@[simp] theorem State.withErrs_seq (s : State) (b : Bool) : (s.withErrs b).seq = s.seq := rfl
@[simp] theorem State.withErrs_param (s : State) (b : Bool) : (s.withErrs b).param = s.param := rfl
@[simp] theorem State.withErrs_inst (s : State) (b : Bool) : (s.withErrs b).inst = s.inst := rfl
@[simp] theorem State.withErrs_value (s : State) (b : Bool) : (s.withErrs b).value = s.value := rfl
@[simp] theorem State.withErrs_res (s : State) (b : Bool) : (s.withErrs b).res = s.res := rfl
@[simp] theorem State.withErrs_crc (s : State) (b : Bool) : (s.withErrs b).crc = s.crc := rfl
@[simp] theorem State.withErrs_rctl (s : State) (b : Bool) : (s.withErrs b).rctl = s.rctl := rfl
@[simp] theorem State.withErrs_raddr (s : State) (b : Bool) : (s.withErrs b).raddr = s.raddr := rfl
@[simp] theorem State.withErrs_rseq (s : State) (b : Bool) : (s.withErrs b).rseq = s.rseq := rfl
@[simp] theorem State.withErrs_err (s : State) (b : Bool) : (s.withErrs b).err = s.err := rfl
@[simp] theorem State.withErrs_errs (s : State) (b : Bool) : (s.withErrs b).errs = b := rfl
@[simp] theorem State.withErrs_rxovf (s : State) (b : Bool) : (s.withErrs b).rxovf = s.rxovf := rfl
@[simp] theorem State.withErrs_closed (s : State) (b : Bool) : (s.withErrs b).closed = s.closed := rfl
@[simp] theorem State.withErrs_fvalid (s : State) (b : Bool) : (s.withErrs b).fvalid = s.fvalid := rfl
@[simp] theorem State.withErrs_narrow (s : State) (b : Bool) : (s.withErrs b).narrow = s.narrow := rfl
@[simp] theorem State.withErrs_tx (s : State) (b : Bool) : (s.withErrs b).tx = s.tx := rfl
@[simp] theorem State.withErrs_rx (s : State) (b : Bool) : (s.withErrs b).rx = s.rx := rfl
@[simp] theorem State.withErrs_frame (s : State) (b : Bool) : (s.withErrs b).frame = s.frame := rfl
@[simp] theorem State.withErrs_params (s : State) (b : Bool) : (s.withErrs b).params = s.params := rfl
@[simp] theorem State.withErrs_pending (s : State) (b : Bool) : (s.withErrs b).pending = s.pending := rfl
@[simp] theorem State.withErrs_readData (s : State) (b : Bool) : (s.withErrs b).readData = s.readData := rfl

/-! ### withRxovf -/

@[simp] theorem State.withRxovf_opa (s : State) (b : Bool) : (s.withRxovf b).opa = s.opa := rfl
@[simp] theorem State.withRxovf_addr (s : State) (b : Bool) : (s.withRxovf b).addr = s.addr := rfl
@[simp] theorem State.withRxovf_seq (s : State) (b : Bool) : (s.withRxovf b).seq = s.seq := rfl
@[simp] theorem State.withRxovf_param (s : State) (b : Bool) : (s.withRxovf b).param = s.param := rfl
@[simp] theorem State.withRxovf_inst (s : State) (b : Bool) : (s.withRxovf b).inst = s.inst := rfl
@[simp] theorem State.withRxovf_value (s : State) (b : Bool) : (s.withRxovf b).value = s.value := rfl
@[simp] theorem State.withRxovf_res (s : State) (b : Bool) : (s.withRxovf b).res = s.res := rfl
@[simp] theorem State.withRxovf_crc (s : State) (b : Bool) : (s.withRxovf b).crc = s.crc := rfl
@[simp] theorem State.withRxovf_rctl (s : State) (b : Bool) : (s.withRxovf b).rctl = s.rctl := rfl
@[simp] theorem State.withRxovf_raddr (s : State) (b : Bool) : (s.withRxovf b).raddr = s.raddr := rfl
@[simp] theorem State.withRxovf_rseq (s : State) (b : Bool) : (s.withRxovf b).rseq = s.rseq := rfl
@[simp] theorem State.withRxovf_err (s : State) (b : Bool) : (s.withRxovf b).err = s.err := rfl
@[simp] theorem State.withRxovf_errs (s : State) (b : Bool) : (s.withRxovf b).errs = s.errs := rfl
@[simp] theorem State.withRxovf_rxovf (s : State) (b : Bool) : (s.withRxovf b).rxovf = b := rfl
@[simp] theorem State.withRxovf_closed (s : State) (b : Bool) : (s.withRxovf b).closed = s.closed := rfl
@[simp] theorem State.withRxovf_fvalid (s : State) (b : Bool) : (s.withRxovf b).fvalid = s.fvalid := rfl
@[simp] theorem State.withRxovf_narrow (s : State) (b : Bool) : (s.withRxovf b).narrow = s.narrow := rfl
@[simp] theorem State.withRxovf_tx (s : State) (b : Bool) : (s.withRxovf b).tx = s.tx := rfl
@[simp] theorem State.withRxovf_rx (s : State) (b : Bool) : (s.withRxovf b).rx = s.rx := rfl
@[simp] theorem State.withRxovf_frame (s : State) (b : Bool) : (s.withRxovf b).frame = s.frame := rfl
@[simp] theorem State.withRxovf_params (s : State) (b : Bool) : (s.withRxovf b).params = s.params := rfl
@[simp] theorem State.withRxovf_pending (s : State) (b : Bool) : (s.withRxovf b).pending = s.pending := rfl
@[simp] theorem State.withRxovf_readData (s : State) (b : Bool) : (s.withRxovf b).readData = s.readData := rfl

/-! ### withClosed -/

@[simp] theorem State.withClosed_opa (s : State) (b : Bool) : (s.withClosed b).opa = s.opa := rfl
@[simp] theorem State.withClosed_addr (s : State) (b : Bool) : (s.withClosed b).addr = s.addr := rfl
@[simp] theorem State.withClosed_seq (s : State) (b : Bool) : (s.withClosed b).seq = s.seq := rfl
@[simp] theorem State.withClosed_param (s : State) (b : Bool) : (s.withClosed b).param = s.param := rfl
@[simp] theorem State.withClosed_inst (s : State) (b : Bool) : (s.withClosed b).inst = s.inst := rfl
@[simp] theorem State.withClosed_value (s : State) (b : Bool) : (s.withClosed b).value = s.value := rfl
@[simp] theorem State.withClosed_res (s : State) (b : Bool) : (s.withClosed b).res = s.res := rfl
@[simp] theorem State.withClosed_crc (s : State) (b : Bool) : (s.withClosed b).crc = s.crc := rfl
@[simp] theorem State.withClosed_rctl (s : State) (b : Bool) : (s.withClosed b).rctl = s.rctl := rfl
@[simp] theorem State.withClosed_raddr (s : State) (b : Bool) : (s.withClosed b).raddr = s.raddr := rfl
@[simp] theorem State.withClosed_rseq (s : State) (b : Bool) : (s.withClosed b).rseq = s.rseq := rfl
@[simp] theorem State.withClosed_err (s : State) (b : Bool) : (s.withClosed b).err = s.err := rfl
@[simp] theorem State.withClosed_errs (s : State) (b : Bool) : (s.withClosed b).errs = s.errs := rfl
@[simp] theorem State.withClosed_rxovf (s : State) (b : Bool) : (s.withClosed b).rxovf = s.rxovf := rfl
@[simp] theorem State.withClosed_closed (s : State) (b : Bool) : (s.withClosed b).closed = b := rfl
@[simp] theorem State.withClosed_fvalid (s : State) (b : Bool) : (s.withClosed b).fvalid = s.fvalid := rfl
@[simp] theorem State.withClosed_narrow (s : State) (b : Bool) : (s.withClosed b).narrow = s.narrow := rfl
@[simp] theorem State.withClosed_tx (s : State) (b : Bool) : (s.withClosed b).tx = s.tx := rfl
@[simp] theorem State.withClosed_rx (s : State) (b : Bool) : (s.withClosed b).rx = s.rx := rfl
@[simp] theorem State.withClosed_frame (s : State) (b : Bool) : (s.withClosed b).frame = s.frame := rfl
@[simp] theorem State.withClosed_params (s : State) (b : Bool) : (s.withClosed b).params = s.params := rfl
@[simp] theorem State.withClosed_pending (s : State) (b : Bool) : (s.withClosed b).pending = s.pending := rfl
@[simp] theorem State.withClosed_readData (s : State) (b : Bool) : (s.withClosed b).readData = s.readData := rfl

/-! ### withTx -/

@[simp] theorem State.withTx_opa (s : State) (bs : List Byte) : (s.withTx bs).opa = s.opa := rfl
@[simp] theorem State.withTx_addr (s : State) (bs : List Byte) : (s.withTx bs).addr = s.addr := rfl
@[simp] theorem State.withTx_seq (s : State) (bs : List Byte) : (s.withTx bs).seq = s.seq := rfl
@[simp] theorem State.withTx_param (s : State) (bs : List Byte) : (s.withTx bs).param = s.param := rfl
@[simp] theorem State.withTx_inst (s : State) (bs : List Byte) : (s.withTx bs).inst = s.inst := rfl
@[simp] theorem State.withTx_value (s : State) (bs : List Byte) : (s.withTx bs).value = s.value := rfl
@[simp] theorem State.withTx_res (s : State) (bs : List Byte) : (s.withTx bs).res = s.res := rfl
@[simp] theorem State.withTx_crc (s : State) (bs : List Byte) : (s.withTx bs).crc = s.crc := rfl
@[simp] theorem State.withTx_rctl (s : State) (bs : List Byte) : (s.withTx bs).rctl = s.rctl := rfl
@[simp] theorem State.withTx_raddr (s : State) (bs : List Byte) : (s.withTx bs).raddr = s.raddr := rfl
@[simp] theorem State.withTx_rseq (s : State) (bs : List Byte) : (s.withTx bs).rseq = s.rseq := rfl
@[simp] theorem State.withTx_err (s : State) (bs : List Byte) : (s.withTx bs).err = s.err := rfl
@[simp] theorem State.withTx_errs (s : State) (bs : List Byte) : (s.withTx bs).errs = s.errs := rfl
@[simp] theorem State.withTx_rxovf (s : State) (bs : List Byte) : (s.withTx bs).rxovf = s.rxovf := rfl
@[simp] theorem State.withTx_closed (s : State) (bs : List Byte) : (s.withTx bs).closed = s.closed := rfl
@[simp] theorem State.withTx_fvalid (s : State) (bs : List Byte) : (s.withTx bs).fvalid = s.fvalid := rfl
@[simp] theorem State.withTx_narrow (s : State) (bs : List Byte) : (s.withTx bs).narrow = s.narrow := rfl
@[simp] theorem State.withTx_tx (s : State) (bs : List Byte) : (s.withTx bs).tx = bs := rfl
@[simp] theorem State.withTx_rx (s : State) (bs : List Byte) : (s.withTx bs).rx = s.rx := rfl
@[simp] theorem State.withTx_frame (s : State) (bs : List Byte) : (s.withTx bs).frame = s.frame := rfl
@[simp] theorem State.withTx_params (s : State) (bs : List Byte) : (s.withTx bs).params = s.params := rfl
@[simp] theorem State.withTx_pending (s : State) (bs : List Byte) : (s.withTx bs).pending = s.pending := rfl
@[simp] theorem State.withTx_readData (s : State) (bs : List Byte) : (s.withTx bs).readData = s.readData := rfl

/-! ### withRx -/

@[simp] theorem State.withRx_opa (s : State) (bs : List Byte) : (s.withRx bs).opa = s.opa := rfl
@[simp] theorem State.withRx_addr (s : State) (bs : List Byte) : (s.withRx bs).addr = s.addr := rfl
@[simp] theorem State.withRx_seq (s : State) (bs : List Byte) : (s.withRx bs).seq = s.seq := rfl
@[simp] theorem State.withRx_param (s : State) (bs : List Byte) : (s.withRx bs).param = s.param := rfl
@[simp] theorem State.withRx_inst (s : State) (bs : List Byte) : (s.withRx bs).inst = s.inst := rfl
@[simp] theorem State.withRx_value (s : State) (bs : List Byte) : (s.withRx bs).value = s.value := rfl
@[simp] theorem State.withRx_res (s : State) (bs : List Byte) : (s.withRx bs).res = s.res := rfl
@[simp] theorem State.withRx_crc (s : State) (bs : List Byte) : (s.withRx bs).crc = s.crc := rfl
@[simp] theorem State.withRx_rctl (s : State) (bs : List Byte) : (s.withRx bs).rctl = s.rctl := rfl
@[simp] theorem State.withRx_raddr (s : State) (bs : List Byte) : (s.withRx bs).raddr = s.raddr := rfl
@[simp] theorem State.withRx_rseq (s : State) (bs : List Byte) : (s.withRx bs).rseq = s.rseq := rfl
@[simp] theorem State.withRx_err (s : State) (bs : List Byte) : (s.withRx bs).err = s.err := rfl
@[simp] theorem State.withRx_errs (s : State) (bs : List Byte) : (s.withRx bs).errs = s.errs := rfl
@[simp] theorem State.withRx_rxovf (s : State) (bs : List Byte) : (s.withRx bs).rxovf = s.rxovf := rfl
@[simp] theorem State.withRx_closed (s : State) (bs : List Byte) : (s.withRx bs).closed = s.closed := rfl
@[simp] theorem State.withRx_fvalid (s : State) (bs : List Byte) : (s.withRx bs).fvalid = s.fvalid := rfl
@[simp] theorem State.withRx_narrow (s : State) (bs : List Byte) : (s.withRx bs).narrow = s.narrow := rfl
@[simp] theorem State.withRx_tx (s : State) (bs : List Byte) : (s.withRx bs).tx = s.tx := rfl
@[simp] theorem State.withRx_rx (s : State) (bs : List Byte) : (s.withRx bs).rx = bs := rfl
@[simp] theorem State.withRx_frame (s : State) (bs : List Byte) : (s.withRx bs).frame = s.frame := rfl
@[simp] theorem State.withRx_params (s : State) (bs : List Byte) : (s.withRx bs).params = s.params := rfl
@[simp] theorem State.withRx_pending (s : State) (bs : List Byte) : (s.withRx bs).pending = s.pending := rfl
@[simp] theorem State.withRx_readData (s : State) (bs : List Byte) : (s.withRx bs).readData = s.readData := rfl

/-! ### withPopped -/

@[simp] theorem State.withPopped_opa (s : State) (l r : List Byte) : (s.withPopped l r).opa = s.opa := rfl
@[simp] theorem State.withPopped_addr (s : State) (l r : List Byte) : (s.withPopped l r).addr = s.addr := rfl
@[simp] theorem State.withPopped_seq (s : State) (l r : List Byte) : (s.withPopped l r).seq = s.seq := rfl
@[simp] theorem State.withPopped_param (s : State) (l r : List Byte) : (s.withPopped l r).param = s.param := rfl
@[simp] theorem State.withPopped_inst (s : State) (l r : List Byte) : (s.withPopped l r).inst = s.inst := rfl
@[simp] theorem State.withPopped_value (s : State) (l r : List Byte) : (s.withPopped l r).value = s.value := rfl
@[simp] theorem State.withPopped_res (s : State) (l r : List Byte) : (s.withPopped l r).res = s.res := rfl
@[simp] theorem State.withPopped_crc (s : State) (l r : List Byte) : (s.withPopped l r).crc = s.crc := rfl
@[simp] theorem State.withPopped_rctl (s : State) (l r : List Byte) : (s.withPopped l r).rctl = s.rctl := rfl
@[simp] theorem State.withPopped_raddr (s : State) (l r : List Byte) : (s.withPopped l r).raddr = s.raddr := rfl
@[simp] theorem State.withPopped_rseq (s : State) (l r : List Byte) : (s.withPopped l r).rseq = s.rseq := rfl
@[simp] theorem State.withPopped_err (s : State) (l r : List Byte) : (s.withPopped l r).err = s.err := rfl
@[simp] theorem State.withPopped_errs (s : State) (l r : List Byte) : (s.withPopped l r).errs = s.errs := rfl
@[simp] theorem State.withPopped_rxovf (s : State) (l r : List Byte) : (s.withPopped l r).rxovf = s.rxovf := rfl
@[simp] theorem State.withPopped_closed (s : State) (l r : List Byte) : (s.withPopped l r).closed = s.closed := rfl
@[simp] theorem State.withPopped_fvalid (s : State) (l r : List Byte) : (s.withPopped l r).fvalid = true := rfl
@[simp] theorem State.withPopped_narrow (s : State) (l r : List Byte) : (s.withPopped l r).narrow = s.narrow := rfl
@[simp] theorem State.withPopped_tx (s : State) (l r : List Byte) : (s.withPopped l r).tx = s.tx := rfl
@[simp] theorem State.withPopped_rx (s : State) (l r : List Byte) : (s.withPopped l r).rx = r := rfl
@[simp] theorem State.withPopped_frame (s : State) (l r : List Byte) : (s.withPopped l r).frame = l := rfl
@[simp] theorem State.withPopped_params (s : State) (l r : List Byte) : (s.withPopped l r).params = s.params := rfl
@[simp] theorem State.withPopped_pending (s : State) (l r : List Byte) : (s.withPopped l r).pending = s.pending := rfl
@[simp] theorem State.withPopped_readData (s : State) (l r : List Byte) : (s.withPopped l r).readData = s.readData := rfl

/-! ### withPending -/

@[simp] theorem State.withPending_opa (s : State) (es : List HostEvent) : (s.withPending es).opa = s.opa := rfl
@[simp] theorem State.withPending_addr (s : State) (es : List HostEvent) : (s.withPending es).addr = s.addr := rfl
@[simp] theorem State.withPending_seq (s : State) (es : List HostEvent) : (s.withPending es).seq = s.seq := rfl
@[simp] theorem State.withPending_param (s : State) (es : List HostEvent) : (s.withPending es).param = s.param := rfl
@[simp] theorem State.withPending_inst (s : State) (es : List HostEvent) : (s.withPending es).inst = s.inst := rfl
@[simp] theorem State.withPending_value (s : State) (es : List HostEvent) : (s.withPending es).value = s.value := rfl
@[simp] theorem State.withPending_res (s : State) (es : List HostEvent) : (s.withPending es).res = s.res := rfl
@[simp] theorem State.withPending_crc (s : State) (es : List HostEvent) : (s.withPending es).crc = s.crc := rfl
@[simp] theorem State.withPending_rctl (s : State) (es : List HostEvent) : (s.withPending es).rctl = s.rctl := rfl
@[simp] theorem State.withPending_raddr (s : State) (es : List HostEvent) : (s.withPending es).raddr = s.raddr := rfl
@[simp] theorem State.withPending_rseq (s : State) (es : List HostEvent) : (s.withPending es).rseq = s.rseq := rfl
@[simp] theorem State.withPending_err (s : State) (es : List HostEvent) : (s.withPending es).err = s.err := rfl
@[simp] theorem State.withPending_errs (s : State) (es : List HostEvent) : (s.withPending es).errs = s.errs := rfl
@[simp] theorem State.withPending_rxovf (s : State) (es : List HostEvent) : (s.withPending es).rxovf = s.rxovf := rfl
@[simp] theorem State.withPending_closed (s : State) (es : List HostEvent) : (s.withPending es).closed = s.closed := rfl
@[simp] theorem State.withPending_fvalid (s : State) (es : List HostEvent) : (s.withPending es).fvalid = s.fvalid := rfl
@[simp] theorem State.withPending_narrow (s : State) (es : List HostEvent) : (s.withPending es).narrow = s.narrow := rfl
@[simp] theorem State.withPending_tx (s : State) (es : List HostEvent) : (s.withPending es).tx = s.tx := rfl
@[simp] theorem State.withPending_rx (s : State) (es : List HostEvent) : (s.withPending es).rx = s.rx := rfl
@[simp] theorem State.withPending_frame (s : State) (es : List HostEvent) : (s.withPending es).frame = s.frame := rfl
@[simp] theorem State.withPending_params (s : State) (es : List HostEvent) : (s.withPending es).params = s.params := rfl
@[simp] theorem State.withPending_pending (s : State) (es : List HostEvent) : (s.withPending es).pending = es := rfl
@[simp] theorem State.withPending_readData (s : State) (es : List HostEvent) : (s.withPending es).readData = s.readData := rfl

/-! ### withReadData -/

@[simp] theorem State.withReadData_opa (s : State) (v : Word) : (s.withReadData v).opa = s.opa := rfl
@[simp] theorem State.withReadData_addr (s : State) (v : Word) : (s.withReadData v).addr = s.addr := rfl
@[simp] theorem State.withReadData_seq (s : State) (v : Word) : (s.withReadData v).seq = s.seq := rfl
@[simp] theorem State.withReadData_param (s : State) (v : Word) : (s.withReadData v).param = s.param := rfl
@[simp] theorem State.withReadData_inst (s : State) (v : Word) : (s.withReadData v).inst = s.inst := rfl
@[simp] theorem State.withReadData_value (s : State) (v : Word) : (s.withReadData v).value = s.value := rfl
@[simp] theorem State.withReadData_res (s : State) (v : Word) : (s.withReadData v).res = s.res := rfl
@[simp] theorem State.withReadData_crc (s : State) (v : Word) : (s.withReadData v).crc = s.crc := rfl
@[simp] theorem State.withReadData_rctl (s : State) (v : Word) : (s.withReadData v).rctl = s.rctl := rfl
@[simp] theorem State.withReadData_raddr (s : State) (v : Word) : (s.withReadData v).raddr = s.raddr := rfl
@[simp] theorem State.withReadData_rseq (s : State) (v : Word) : (s.withReadData v).rseq = s.rseq := rfl
@[simp] theorem State.withReadData_err (s : State) (v : Word) : (s.withReadData v).err = s.err := rfl
@[simp] theorem State.withReadData_errs (s : State) (v : Word) : (s.withReadData v).errs = s.errs := rfl
@[simp] theorem State.withReadData_rxovf (s : State) (v : Word) : (s.withReadData v).rxovf = s.rxovf := rfl
@[simp] theorem State.withReadData_closed (s : State) (v : Word) : (s.withReadData v).closed = s.closed := rfl
@[simp] theorem State.withReadData_fvalid (s : State) (v : Word) : (s.withReadData v).fvalid = s.fvalid := rfl
@[simp] theorem State.withReadData_narrow (s : State) (v : Word) : (s.withReadData v).narrow = s.narrow := rfl
@[simp] theorem State.withReadData_tx (s : State) (v : Word) : (s.withReadData v).tx = s.tx := rfl
@[simp] theorem State.withReadData_rx (s : State) (v : Word) : (s.withReadData v).rx = s.rx := rfl
@[simp] theorem State.withReadData_frame (s : State) (v : Word) : (s.withReadData v).frame = s.frame := rfl
@[simp] theorem State.withReadData_params (s : State) (v : Word) : (s.withReadData v).params = s.params := rfl
@[simp] theorem State.withReadData_pending (s : State) (v : Word) : (s.withReadData v).pending = s.pending := rfl
@[simp] theorem State.withReadData_readData (s : State) (v : Word) : (s.withReadData v).readData = some v := rfl

/-! ### endWith -/

@[simp] theorem State.endWith_opa (s : State) (e : ErrorCode) : (s.endWith e).opa = s.opa := rfl
@[simp] theorem State.endWith_addr (s : State) (e : ErrorCode) : (s.endWith e).addr = s.addr := rfl
@[simp] theorem State.endWith_seq (s : State) (e : ErrorCode) : (s.endWith e).seq = s.seq := rfl
@[simp] theorem State.endWith_param (s : State) (e : ErrorCode) : (s.endWith e).param = s.param := rfl
@[simp] theorem State.endWith_inst (s : State) (e : ErrorCode) : (s.endWith e).inst = s.inst := rfl
@[simp] theorem State.endWith_value (s : State) (e : ErrorCode) : (s.endWith e).value = s.value := rfl
@[simp] theorem State.endWith_res (s : State) (e : ErrorCode) : (s.endWith e).res = s.res := rfl
@[simp] theorem State.endWith_crc (s : State) (e : ErrorCode) : (s.endWith e).crc = s.crc := rfl
@[simp] theorem State.endWith_rctl (s : State) (e : ErrorCode) : (s.endWith e).rctl = s.rctl := rfl
@[simp] theorem State.endWith_raddr (s : State) (e : ErrorCode) : (s.endWith e).raddr = s.raddr := rfl
@[simp] theorem State.endWith_rseq (s : State) (e : ErrorCode) : (s.endWith e).rseq = s.rseq := rfl
@[simp] theorem State.endWith_err (s : State) (e : ErrorCode) : (s.endWith e).err = errorBits e := rfl
@[simp] theorem State.endWith_errs (s : State) (e : ErrorCode) : (s.endWith e).errs = (setsErrs e || s.errs) := rfl
@[simp] theorem State.endWith_rxovf (s : State) (e : ErrorCode) : (s.endWith e).rxovf = s.rxovf := rfl
@[simp] theorem State.endWith_closed (s : State) (e : ErrorCode) : (s.endWith e).closed = s.closed := rfl
@[simp] theorem State.endWith_fvalid (s : State) (e : ErrorCode) : (s.endWith e).fvalid = s.fvalid := rfl
@[simp] theorem State.endWith_narrow (s : State) (e : ErrorCode) : (s.endWith e).narrow = s.narrow := rfl
@[simp] theorem State.endWith_tx (s : State) (e : ErrorCode) : (s.endWith e).tx = s.tx := rfl
@[simp] theorem State.endWith_rx (s : State) (e : ErrorCode) : (s.endWith e).rx = s.rx := rfl
@[simp] theorem State.endWith_frame (s : State) (e : ErrorCode) : (s.endWith e).frame = s.frame := rfl
@[simp] theorem State.endWith_params (s : State) (e : ErrorCode) : (s.endWith e).params = s.params := rfl
@[simp] theorem State.endWith_pending (s : State) (e : ErrorCode) : (s.endWith e).pending = s.pending := rfl
@[simp] theorem State.endWith_readData (s : State) (e : ErrorCode) : (s.endWith e).readData = s.readData := rfl

/-! ### withOperand -/

@[simp] theorem State.withOperand_opa (s : State) (r : OperandReg) (v : Word) :
    (s.withOperand r v).opa = if r = .opa then v else s.opa := by cases r <;> rfl
@[simp] theorem State.withOperand_addr (s : State) (r : OperandReg) (v : Word) :
    (s.withOperand r v).addr = if r = .addr then v else s.addr := by cases r <;> rfl
@[simp] theorem State.withOperand_seq (s : State) (r : OperandReg) (v : Word) :
    (s.withOperand r v).seq = if r = .seq then v else s.seq := by cases r <;> rfl
@[simp] theorem State.withOperand_param (s : State) (r : OperandReg) (v : Word) :
    (s.withOperand r v).param = if r = .param then v else s.param := by cases r <;> rfl
@[simp] theorem State.withOperand_inst (s : State) (r : OperandReg) (v : Word) :
    (s.withOperand r v).inst = if r = .inst then v else s.inst := by cases r <;> rfl
@[simp] theorem State.withOperand_value (s : State) (r : OperandReg) (v : Word) :
    (s.withOperand r v).value = if r = .value then v else s.value := by cases r <;> rfl
@[simp] theorem State.withOperand_res (s : State) (r : OperandReg) (v : Word) :
    (s.withOperand r v).res = s.res := by cases r <;> rfl
@[simp] theorem State.withOperand_crc (s : State) (r : OperandReg) (v : Word) :
    (s.withOperand r v).crc = s.crc := by cases r <;> rfl
@[simp] theorem State.withOperand_rctl (s : State) (r : OperandReg) (v : Word) :
    (s.withOperand r v).rctl = s.rctl := by cases r <;> rfl
@[simp] theorem State.withOperand_raddr (s : State) (r : OperandReg) (v : Word) :
    (s.withOperand r v).raddr = s.raddr := by cases r <;> rfl
@[simp] theorem State.withOperand_rseq (s : State) (r : OperandReg) (v : Word) :
    (s.withOperand r v).rseq = s.rseq := by cases r <;> rfl
@[simp] theorem State.withOperand_err (s : State) (r : OperandReg) (v : Word) :
    (s.withOperand r v).err = s.err := by cases r <;> rfl
@[simp] theorem State.withOperand_errs (s : State) (r : OperandReg) (v : Word) :
    (s.withOperand r v).errs = s.errs := by cases r <;> rfl
@[simp] theorem State.withOperand_rxovf (s : State) (r : OperandReg) (v : Word) :
    (s.withOperand r v).rxovf = s.rxovf := by cases r <;> rfl
@[simp] theorem State.withOperand_closed (s : State) (r : OperandReg) (v : Word) :
    (s.withOperand r v).closed = s.closed := by cases r <;> rfl
@[simp] theorem State.withOperand_fvalid (s : State) (r : OperandReg) (v : Word) :
    (s.withOperand r v).fvalid = s.fvalid := by cases r <;> rfl
@[simp] theorem State.withOperand_narrow (s : State) (r : OperandReg) (v : Word) :
    (s.withOperand r v).narrow = s.narrow := by cases r <;> rfl
@[simp] theorem State.withOperand_tx (s : State) (r : OperandReg) (v : Word) :
    (s.withOperand r v).tx = s.tx := by cases r <;> rfl
@[simp] theorem State.withOperand_rx (s : State) (r : OperandReg) (v : Word) :
    (s.withOperand r v).rx = s.rx := by cases r <;> rfl
@[simp] theorem State.withOperand_frame (s : State) (r : OperandReg) (v : Word) :
    (s.withOperand r v).frame = s.frame := by cases r <;> rfl
@[simp] theorem State.withOperand_params (s : State) (r : OperandReg) (v : Word) :
    (s.withOperand r v).params = s.params := by cases r <;> rfl
@[simp] theorem State.withOperand_pending (s : State) (r : OperandReg) (v : Word) :
    (s.withOperand r v).pending = s.pending := by cases r <;> rfl
@[simp] theorem State.withOperand_readData (s : State) (r : OperandReg) (v : Word) :
    (s.withOperand r v).readData = s.readData := by cases r <;> rfl

end Sys2Proof.Machine
end

