-- ==== Sys2Proof/Laws/Ops.lean ====
section
/-! SUPPORT. What each shared operation can do, said once; proofs cite these instead of unfolding the operation. -/

namespace Sys2Proof.Machine

/-! ### How a command ends -/

@[simp] theorem commandOk_eq (s : State) : commandOk s = .next (s.endWith .ok) := rfl

@[simp] theorem raise_eq (e : ErrorCode) (s : State) : raise e s = .next (s.endWith e) := rfl

/-- The codes of 60_exceptions.md R230 fit the rule of R232: exactly the codes 1..9 set ERRS. -/
theorem setsErrs_iff (e : ErrorCode) : setsErrs e = true ↔ 1 ≤ (errorBits e).toNat ∧ (errorBits e).toNat ≤ 9 := by
  cases e <;> decide

/-- No code above 10 is written (R230). -/
theorem errorBits_le (e : ErrorCode) : (errorBits e).toNat ≤ 10 := by cases e <;> decide

/-- Different outcomes have different codes. -/
theorem errorBits_injective {e f : ErrorCode} (h : errorBits e = errorBits f) : e = f := by
  cases e <;> cases f <;> first | rfl | exact absurd h (by decide)

/-- A finished body: its state with code 0, or the old state with the body's code. -/
theorem finish_cases (s : State) (r : Except ErrorCode State) :
    (∃ t, r = .ok t ∧ finish s r = .next (t.endWith .ok)) ∨ (∃ e, r = .error e ∧ finish s r = .next (s.endWith e)) := by
  cases r with
  | ok t => exact .inl ⟨t, rfl, rfl⟩
  | error e => exact .inr ⟨e, rfl, rfl⟩

/-! ### TX -/

/-- All that `tx_append` can do (40_codec.md R100). -/
theorem txAppend_cases (bs : List Byte) (s : State) :
    (s.tx.length + bs.length ≤ s.params.txCap ∧ txAppend bs s = .ok (s.withTx (s.tx ++ bs))) ∨
    (s.params.txCap < s.tx.length + bs.length ∧ txAppend bs s = .error .txOverflow) := by
  by_cases h : s.params.txCap < s.tx.length + bs.length
  · exact .inr ⟨h, by simp [txAppend, h]⟩
  · exact .inl ⟨by omega, by simp [txAppend, h]⟩

/-- All that an appending command can do. -/
theorem appendCommand_cases (bs : List Byte) (s : State) :
    (s.tx.length + bs.length ≤ s.params.txCap ∧
      appendCommand bs s = .next ((s.withTx (s.tx ++ bs)).endWith .ok)) ∨
    (s.params.txCap < s.tx.length + bs.length ∧ appendCommand bs s = .next (s.endWith .txOverflow)) := by
  rcases txAppend_cases bs s with ⟨h, e⟩ | ⟨h, e⟩
  · exact .inl ⟨h, by simp [appendCommand, e, finish]⟩
  · exact .inr ⟨h, by simp [appendCommand, e, finish]⟩

/-! ### Decoders -/

/-- All that a field decoder can do (R106, R110 to R112). -/
theorem decodeField_cases (off : Byte) (w : Nat) (s : State) :
    (∃ v, frameField s.params.hexLowerOk s.frame off.toNat w = some v ∧
      decodeField off w s = .next ((s.withRes (BitVec.ofNat 32 v)).endWith .ok)) ∨
    (frameField s.params.hexLowerOk s.frame off.toNat w = none ∧
      decodeField off w s = .next (s.endWith .malformedField)) := by
  cases h : frameField s.params.hexLowerOk s.frame off.toNat w with
  | none => exact .inr ⟨rfl, by simp [decodeField, h]⟩
  | some v => exact .inl ⟨v, rfl, by simp [decodeField, h]⟩

/-! ### Assembler, reader, response -/

/-- All that the assembler can do (42_assembler.md R153 to R156). -/
theorem assemble_cases (body : List Byte) (s : State) :
    (rangeOk s = true ∧
      assemble body s = .next (((s.withTx (frameOf body)).withCrc (crc16 body)).endWith .ok)) ∨
    (rangeOk s = false ∧ assemble body s = .next (s.endWith .encodingError)) := by
  cases h : rangeOk s
  · exact .inr ⟨rfl, by simp [assemble, h]⟩
  · exact .inl ⟨rfl, by simp [assemble, h]⟩

/-- All that a push can do (43_reader.md R171). -/
theorem pushByte_cases (b : Byte) (s : State) :
    (s.rx.length < s.params.rxCap ∧ pushByte b s = s.withRx (s.rx ++ [b])) ∨
    (s.params.rxCap ≤ s.rx.length ∧ pushByte b s = s.withRxovf true) := by
  by_cases h : s.rx.length < s.params.rxCap
  · exact .inl ⟨h, by simp [pushByte, h]⟩
  · exact .inr ⟨by omega, by simp [pushByte, h]⟩

/-- A response is parsed or not: what each response command does is said by `parseResponse` alone (44_response.md R195,
R196). -/
theorem execRspF32_cases (s : State) :
    (∃ r, parseResponse s.params s.frame = .ok r ∧
      execRspF32 s = .next (((storeHeader r s).withRes r.value).endWith .ok)) ∨
    (∃ e, parseResponse s.params s.frame = .error e ∧ execRspF32 s = .next (s.endWith e)) := by
  cases h : parseResponse s.params s.frame with
  | ok r => exact .inl ⟨r, rfl, by simp [execRspF32, h]⟩
  | error e => exact .inr ⟨e, rfl, by simp [execRspF32, h]⟩

/-! ### Accesses -/

/-- Exactly the aligned 32-bit accesses inside the register space have an offset (20_memory.md R50, R51). -/
theorem checkAccess_ok_iff (base addr width off : Nat) :
    checkAccess base addr width = .ok off ↔
      base ≤ addr ∧ addr < base + spaceSize ∧ width = 4 ∧ off = addr - base ∧ off % 4 = 0 := by
  unfold checkAccess
  by_cases h1 : addr < base ∨ base + spaceSize ≤ addr
  · rw [if_pos h1]
    constructor
    · intro h; cases h
    · rintro ⟨a, b, -⟩; omega
  · rw [if_neg h1]
    by_cases h2 : width ≠ 4
    · rw [if_pos h2]
      constructor
      · intro h; cases h
      · rintro ⟨-, -, c, -⟩; exact absurd c h2
    · rw [if_neg h2]
      by_cases h3 : (addr - base) % 4 ≠ 0
      · rw [if_pos h3]
        constructor
        · intro h; cases h
        · rintro ⟨-, -, -, d, e⟩; subst d; exact absurd e h3
      · rw [if_neg h3]
        constructor
        · intro h
          cases h
          exact ⟨by omega, by omega, by omega, rfl, by omega⟩
        · rintro ⟨-, -, -, d, -⟩
          rw [d]

/-- An access either has a step or is rejected, and a rejection is never a next state. -/
theorem rejectAccess_not_next (e : AccessReject) (t : State) : rejectAccess e ≠ .next t := by
  cases e <;> simp [rejectAccess]

/-- All that fetching can do (45_control.md R216, log 1, log 2, log 8). -/
theorem fetch_cases (s : State) :
    (s.pending = [] ∧ fetch s = .done (.refused .noHostAccess)) ∨
    (∃ rest, s.pending = .reset :: rest ∧ fetch s = .done (.next (resetBlock (s.withPending rest)))) ∨
    (∃ a rest, s.pending = .access a :: rest ∧ fetch s = fetchAccess a (s.withPending rest)) := by
  unfold fetch
  split
  · exact .inl ⟨by assumption, rfl⟩
  · exact .inr (.inl ⟨_, by assumption, rfl⟩)
  · exact .inr (.inr ⟨_, _, by assumption, rfl⟩)

/-- All that an access can ask for. -/
theorem fetchAccess_cases (a : Access) (s : State) :
    (∃ e, decodeAccess s.params.base a = .error e ∧ fetchAccess a s = .done (rejectAccess e)) ∨
    (∃ i, decodeAccess s.params.base a = .ok (.run i) ∧ fetchAccess a s = .run i s) ∨
    (decodeAccess s.params.base a = .ok .noEffect ∧ fetchAccess a s = .done (.next s)) := by
  unfold fetchAccess
  split
  · exact .inl ⟨_, by assumption, rfl⟩
  · exact .inr (.inl ⟨_, by assumption, rfl⟩)
  · exact .inr (.inr ⟨by assumption, rfl⟩)

end Sys2Proof.Machine
end

