-- ==== Sys2Proof/Laws/PerInstr.lean ====
section
/-! SUPPORT. The families of statements about instructions as terms, one lemma per constructor (LAWS.json). -/

namespace Sys2Proof.Laws

/-- Bits 31:16 of a command word are 0 (30_encoding.md R70). -/
theorem commandWord_upper (op f : Byte) : (commandWord op f).extractLsb' 16 16 = 0 := by
  have h : ∀ j, 16 ≤ j → (commandWord op f).getLsbD j = false := by
    intro j hj
    have h1 : op.getLsbD j = false := BitVec.getLsbD_of_ge _ _ (by omega)
    have h2 : f.getLsbD (j - 8) = false := BitVec.getLsbD_of_ge _ _ (by omega)
    simp [commandWord, h1, h2]
  apply BitVec.eq_of_getLsbD_eq
  intro i hi
  rw [BitVec.getLsbD_extractLsb', h (16 + i) (by omega)]
  simp

end Sys2Proof.Laws

namespace Sys2Proof.Laws.UpperHalfZero

/-- Field Z of 30_encoding.md R70: an instruction that has a command word has one whose bits 31:16 are 0. -/
def Statement (i : Instr) : Prop := ∀ w, encodeCommand i = some w → w.extractLsb' 16 16 = 0

/-- What every command's case says. -/
theorem of_word {i : Instr} {op f : Byte} (h : encodeCommand i = some (commandWord op f)) : Statement i := by
  intro w hw
  rw [h] at hw
  cases hw
  exact commandWord_upper op f

/-- What every bus operation's case says. -/
theorem of_none {i : Instr} (h : encodeCommand i = none) : Statement i := by
  intro w hw
  rw [h] at hw
  cases hw

theorem nop : Statement .nop := of_word rfl
theorem crcClr : Statement .crcClr := of_word rfl
theorem crcByte : Statement .crcByte := of_word rfl
theorem crcTx : Statement .crcTx := of_word rfl
theorem crcFrm (n : Byte) : Statement (.crcFrm n) := of_word rfl
theorem txClr : Statement .txClr := of_word rfl
theorem txCtl (sel : ControlSel) : Statement (.txCtl sel) := of_word rfl
theorem encU8 : Statement .encU8 := of_word rfl
theorem encU16 : Statement .encU16 := of_word rfl
theorem encF32 : Statement .encF32 := of_word rfl
theorem encTok (tok : Token) : Statement (.encTok tok) := of_word rfl
theorem encCrc : Statement .encCrc := of_word rfl
theorem encTerm : Statement .encTerm := of_word rfl
theorem asmVr : Statement .asmVr := of_word rfl
theorem asmVs : Statement .asmVs := of_word rfl
theorem rxPop : Statement .rxPop := of_word rfl
theorem rxFlush : Statement .rxFlush := of_word rfl
theorem rxClose : Statement .rxClose := of_word rfl
theorem rxOpen : Statement .rxOpen := of_word rfl
theorem rxTimeout : Statement .rxTimeout := of_word rfl
theorem decU8 (off : Byte) : Statement (.decU8 off) := of_word rfl
theorem decU16 (off : Byte) : Statement (.decU16 off) := of_word rfl
theorem decF32 (off : Byte) : Statement (.decF32 off) := of_word rfl
theorem decTok (off : Byte) : Statement (.decTok off) := of_word rfl
theorem rspF32 : Statement .rspF32 := of_word rfl
theorem rspU16 : Statement .rspU16 := of_word rfl
theorem busCmdWrite (w : Word) : Statement (.busCmdWrite w) := of_none rfl
theorem busOperandWrite (r : OperandReg) (v : Word) : Statement (.busOperandWrite r v) := of_none rfl
theorem busStatusWrite (v : Word) : Statement (.busStatusWrite v) := of_none rfl
theorem busRead (off : Nat) : Statement (.busRead off) := of_none rfl
theorem busRxdataWrite (w : Word) : Statement (.busRxdataWrite w) := of_none rfl

end Sys2Proof.Laws.UpperHalfZero
end

