-- ==== Sys2Proof/Tests/Slice0.lean ====
section
/-! SUPPORT. The model's own tests. Expected results come from the vectors of spec/95_test_vectors.md (V…, P…, E…) and from the
encoding table of 30_encoding.md R73, R74; then one concrete case for the hypotheses of each statement. -/

namespace Sys2Proof.Tests

/- check.sh gives every thread 256 MiB of stack under a memory limit: elaborating these theorems one after the other keeps
the number of threads small. -/
set_option Elab.async false

open Sys2Proof.Machine

/-- The ASCII bytes of a string. -/
def ascii (s : String) : List Byte := s.toList.map (fun c => BitVec.ofNat 8 c.toNat)

/-- The next state of an outcome, if it is one. -/
def nextOf : Result → Option State
  | .next t => some t
  | .fault _ => none
  | .refused _ => none

/-- One step from a state in which the host writes a command word to CMD. -/
def cmd (w : Nat) (s : State) : Option State := nextOf (step (s.withFetchWord 32 w))

/-- One step from a state in which the host makes an access. -/
def bus (a : Access) (s : State) : Option State := nextOf (step (s.withPending [.access a]))

/-- What one read at an offset returns. -/
def readAt (off : Nat) (s : State) : Option Word := (bus (.read (s.params.base + off) 4) s).bind (·.readData)

/-- The reset state with a frame line. -/
def framed (f : List Byte) : State := { State.reset with frame := f, fvalid := true }

/-- The reset state with a TX buffer. -/
def sending (b : List Byte) : State := { State.reset with tx := b }

/-- The reset state with received bytes. -/
def received (b : List Byte) : State := { State.reset with rx := b }

/-- The reset state with other parameters. -/
def withParams (p : Params) : State := { State.reset with params := p }

/-! ### WellFormed and Params.legal: an ill-formed term for each check -/

theorem test_wellFormed_refuses_offset_outside : Instr.wellFormed (.busRead 0x1000) = false := by decide
theorem test_wellFormed_refuses_unaligned_offset : Instr.wellFormed (.busRead 0x006) = false := by decide
theorem test_wellFormed_accepts_last_offset : Instr.wellFormed (.busRead 0xFFC) = true := by decide
theorem test_legal_refuses_small_rxCap : Params.legal { Params.default with rxCap := 31 } = false := by decide
theorem test_legal_refuses_large_rxCap : Params.legal { Params.default with rxCap := 257 } = false := by decide
theorem test_legal_refuses_small_txCap : Params.legal { Params.default with txCap := 27 } = false := by decide
theorem test_legal_refuses_large_txCap : Params.legal { Params.default with txCap := 256 } = false := by decide
theorem test_legal_accepts_default : Params.default.legal = true := by decide

/-! ### Decoding: every constructor's word, written out from R73 and R74 -/

theorem test_decode_nop : decodeTableWord 32 0x00000000 = some .nop := by decide
theorem test_decode_crcClr : decodeTableWord 32 0x00000001 = some .crcClr := by decide
theorem test_decode_crcByte : decodeTableWord 32 0x00000002 = some .crcByte := by decide
theorem test_decode_crcTx : decodeTableWord 32 0x00000003 = some .crcTx := by decide
theorem test_decode_crcFrm : decodeTableWord 32 0x00001404 = some (.crcFrm 20) := by decide
theorem test_decode_txClr : decodeTableWord 32 0x00000010 = some .txClr := by decide
theorem test_decode_txCtl_host : decodeTableWord 32 0x00000011 = some (.txCtl .host) := by decide
theorem test_decode_txCtl_device : decodeTableWord 32 0x00000111 = some (.txCtl .device) := by decide
theorem test_decode_encU8 : decodeTableWord 32 0x00000012 = some .encU8 := by decide
theorem test_decode_encU16 : decodeTableWord 32 0x00000013 = some .encU16 := by decide
theorem test_decode_encF32 : decodeTableWord 32 0x00000014 = some .encF32 := by decide
theorem test_decode_encTok_vr : decodeTableWord 32 0x00000015 = some (.encTok .vr) := by decide
theorem test_decode_encTok_vs : decodeTableWord 32 0x00000115 = some (.encTok .vs) := by decide
theorem test_decode_encCrc : decodeTableWord 32 0x00000016 = some .encCrc := by decide
theorem test_decode_encTerm : decodeTableWord 32 0x00000017 = some .encTerm := by decide
theorem test_decode_asmVr : decodeTableWord 32 0x00000018 = some .asmVr := by decide
theorem test_decode_asmVs : decodeTableWord 32 0x00000019 = some .asmVs := by decide
theorem test_decode_rxPop : decodeTableWord 32 0x00000020 = some .rxPop := by decide
theorem test_decode_rxFlush : decodeTableWord 32 0x00000021 = some .rxFlush := by decide
theorem test_decode_rxClose : decodeTableWord 32 0x00000022 = some .rxClose := by decide
theorem test_decode_rxOpen : decodeTableWord 32 0x00000023 = some .rxOpen := by decide
theorem test_decode_rxTimeout : decodeTableWord 32 0x00000024 = some .rxTimeout := by decide
theorem test_decode_decU8 : decodeTableWord 32 0x0000FF30 = some (.decU8 255) := by decide
theorem test_decode_decU16 : decodeTableWord 32 0x00000331 = some (.decU16 3) := by decide
theorem test_decode_decF32 : decodeTableWord 32 0x00000732 = some (.decF32 7) := by decide
theorem test_decode_decTok : decodeTableWord 32 0x00000733 = some (.decTok 7) := by decide
theorem test_decode_rspF32 : decodeTableWord 32 0x00000034 = some .rspF32 := by decide
theorem test_decode_rspU16 : decodeTableWord 32 0x00000035 = some .rspU16 := by decide

/-- V34 to V34h: the illegal words. -/
theorem test_decode_illegal_words :
    ([0x00000005, 0x000000FF, 0x00000100, 0x00010000, 0x80000018, 0x00000211, 0x00000101, 0x00000334, 0x0001FF15] :
      List Nat).map (decodeTableWord 32) = List.replicate 9 none := by decide

/-- The bus operations, read back from the accesses of R211 to R215 at base 0x4000. -/
theorem test_decode_bus_operations :
    ([.write 0x4000 4 0x18, .write 0x4018 4 7, .write 0x4004 4 0x10, .read 0x4044 4, .write 0x4040 4 0x41] :
      List Access).map (fun a => match decodeAccess 0x4000 a with | .ok (.run i) => some i | _ => none) =
    [some (.busCmdWrite 0x18), some (.busOperandWrite .inst 7), some (.busStatusWrite 0x10), some (.busRead 0x44),
      some (.busRxdataWrite 0x41)] := by decide

/-! ### Checksum function (the table of Part 2) -/

theorem test_crc16_check_value : crc16 (ascii "123456789") = 0x31C3 := by decide +kernel
theorem test_crc16_ones : crc16 [0xFF, 0xFF] = 0x1D0F := by decide +kernel
theorem test_crc16_cr : crc16 [0x0D] = 0xD1AD := by decide +kernel

/-! ### Commands -/

/-- V35. -/
theorem test_nop_keeps_errs : (cmd 0x00 { State.reset with err := 8, errs := true }).map (fun t => (t.err, t.errs)) =
    some (0, true) := by decide +kernel
/-- V1. -/
theorem test_crcClr : (cmd 0x01 { State.reset with crc := 0xAC05 }).map (fun t => (t.crc, t.err)) = some (0, 0) := by
  decide +kernel
/-- V2. -/
theorem test_crcByte : (cmd 0x02 { State.reset with opa := 0x41 }).map (·.crc) = some 0x58E5 := by decide +kernel
/-- V4. -/
theorem test_crcByte_range : (cmd 0x02 { State.reset with opa := 0x141, crc := 0x31C3 }).map
    (fun t => (t.crc, t.err, t.errs)) = some (0x31C3, 1, true) := by decide +kernel
/-- V4c, E7: the old CRC does not matter. -/
theorem test_crcTx : (cmd 0x03 { sending (ascii "#020003?VR03E801") with crc := 0xFFFF }).map (·.crc) = some 0xAC05 := by
  decide +kernel
/-- V4e. -/
theorem test_crcFrm : (cmd 0x1404 (framed (ascii "#020003?VR03E801AC05"))).map (·.crc) = some 0x7102 := by decide +kernel
/-- V4f. -/
theorem test_crcFrm_too_long : (cmd 0x1504 { framed (ascii "#020003?VR03E801AC05") with crc := 0x7102 }).map
    (fun t => (t.crc, t.err)) = some (0x7102, 2) := by decide +kernel
/-- V17b. -/
theorem test_txClr : (cmd 0x10 (sending (ascii "#020003?VR03E801AC05"))).map (·.tx) = some [] := by decide +kernel
/-- V17a. -/
theorem test_txCtl : (cmd 0x111 State.reset).map (·.tx) = some (ascii "!") := by decide +kernel
/-- R101's example. -/
theorem test_encU8 : (cmd 0x12 { sending (ascii "#") with opa := 0x02 }).map (·.tx) = some (ascii "#02") := by
  decide +kernel
/-- V16a: EncodingError wins over TxOverflow. -/
theorem test_encU8_priority :
    (cmd 0x12 { sending (List.replicate 64 0x30) with opa := 0x100 }).map (·.err) = some 1 := by decide +kernel
/-- V6b. -/
theorem test_encU16 : (cmd 0x13 { State.reset with opa := 1000 }).map (·.tx) = some (ascii "03E8") := by decide +kernel
/-- V6c. -/
theorem test_encU16_range : (cmd 0x13 { State.reset with opa := 0x10000 }).map (fun t => (t.tx, t.err)) =
    some ([], 1) := by decide +kernel
/-- V7c. -/
theorem test_encF32 : (cmd 0x14 { State.reset with opa := 0x7FC00001 }).map (·.tx) = some (ascii "7FC00001") := by
  decide +kernel
/-- R100: 57 bytes leave room for 7 only. -/
theorem test_encF32_overflow : (cmd 0x14 (sending (List.replicate 57 0x30))).map (fun t => (t.tx.length, t.err)) =
    some (57, 9) := by decide +kernel
/-- R105's example. -/
theorem test_encTok_vr : (cmd 0x15 (sending (ascii "#020003"))).map (·.tx) = some (ascii "#020003?VR") := by decide +kernel
/-- V34i. -/
theorem test_encTok_vs : (cmd 0x115 State.reset).map (fun t => (t.tx, t.err)) = some (ascii "VS", 0) := by decide +kernel
/-- V4h. -/
theorem test_encCrc : (cmd 0x16 (sending (ascii "#020003?VR03E801"))).map (fun t => (t.tx, t.crc)) =
    some (ascii "#020003?VR03E801AC05", 0xAC05) := by decide +kernel
/-- V16: the 28-byte TX is full when TX_CAP = 28. -/
theorem test_encTerm_overflow :
    (cmd 0x17 { withParams { Params.default with txCap := 28 } with tx := List.replicate 28 0x30 }).map statusWord =
      some 0x00000019 := by decide +kernel
/-- R152's example. -/
theorem test_encTerm : (cmd 0x17 (sending (ascii "AC05"))).map (·.tx) = some (ascii "AC05" ++ [0x0D]) := by decide +kernel
/-- V13, E1. -/
theorem test_asmVr : (cmd 0x18 { State.reset with addr := 2, seq := 3, param := 1000, inst := 1 }).map
    (fun t => (t.tx, t.crc)) = some (ascii "#020003?VR03E801AC05\r", 0xAC05) := by decide +kernel
/-- V15b. -/
theorem test_asmVr_range : (cmd 0x18 { State.reset with param := 0x10000 }).map (fun t => (t.tx, t.err)) =
    some ([], 1) := by decide +kernel
/-- V14c. -/
theorem test_asmVs : (cmd 0x19 { State.reset with addr := 1, seq := 5, param := 50000, inst := 1, value := 0xBF800000 }).map
    (·.tx) = some (ascii "#010005VSC35001BF8000008422\r") := by decide +kernel
/-- V15c. -/
theorem test_asmVs_range : (cmd 0x19 { State.reset with inst := 0x100 }).map (·.err) = some 1 := by decide +kernel
/-- V18a. -/
theorem test_rxPop : (cmd 0x20 (received (ascii "AB\rCD"))).map (fun t => (t.frame, t.rx, t.fvalid)) =
    some (ascii "AB", ascii "CD", true) := by decide +kernel
/-- V22. -/
theorem test_rxPop_closed : (cmd 0x20 { received (ascii "!02") with closed := true }).map
    (fun t => (t.rx, t.err, t.errs)) = some (ascii "!02", 6, true) := by decide +kernel
/-- V21c. -/
theorem test_rxFlush : (cmd 0x21 { received (ascii "XX") with rxovf := true, err := 10 }).map statusWord = some 0 := by
  decide +kernel
theorem test_rxClose : (cmd 0x22 State.reset).map (·.closed) = some true := by decide +kernel
/-- V22b. -/
theorem test_rxOpen : (cmd 0x23 { State.reset with closed := true }).map (·.closed) = some false := by decide +kernel
/-- V23. -/
theorem test_rxTimeout : (cmd 0x24 (received (ascii "!0200"))).map (fun t => (t.rx, t.err, t.errs)) =
    some ([], 5, true) := by decide +kernel
/-- V9a. -/
theorem test_decU8_lower : (cmd 0x30 (framed (ascii "0a"))).map (·.res) = some 0x0A := by decide +kernel
/-- V9a with HEX_LOWER_OK = 0. -/
theorem test_decU8_no_lower :
    (cmd 0x30 { framed (ascii "0a") with params := { Params.default with hexLowerOk := false } }).map (·.err) =
      some 2 := by decide +kernel
/-- V10b. -/
theorem test_decU16 : (cmd 0x0A31 (framed (ascii "#020003?VR03E801AC05"))).map (·.res) = some 1000 := by decide +kernel
/-- V10a. -/
theorem test_decU16_bad : (cmd 0x31 (framed (ascii "03G8"))).map (fun t => (t.res, t.err)) = some (0, 2) := by
  decide +kernel
/-- V11b. -/
theorem test_decF32 : (cmd 0x0732 (framed (ascii "!020003421600000AB2"))).map (·.res) = some 0x42160000 := by
  decide +kernel
/-- V11a. -/
theorem test_decF32_short : (cmd 0x32 (framed (ascii "1234567"))).map (·.err) = some 2 := by decide +kernel
/-- V12a. -/
theorem test_decTok : (cmd 0x0733 (framed (ascii "#020004VS0BB8"))).map (·.res) = some 1 := by decide +kernel
/-- V12h. -/
theorem test_decTok_unknown : (cmd 0x0833 (framed (ascii "#020003?VR"))).map (·.err) = some 3 := by decide +kernel
/-- V25. -/
theorem test_rspF32 : (cmd 0x34 (framed (ascii "!020003421600000AB2"))).map
    (fun t => (t.res, t.raddr, t.rseq, t.rctl, t.crc)) = some (0x42160000, 2, 3, 0x21, 0x0AB2) := by decide +kernel
/-- V26, V29, V30, V28b, V27: ChecksumMismatch, UnexpectedResponseValue and MalformedField. -/
theorem test_rspF32_errors :
    ([ascii "!020003421600000AB3", ascii "!0200034216000CD34", ascii "!0200083F80000ZC43D", ascii "!0G0003421600000AB2",
      ascii "#020003421600000AB2"]).map (fun f => (cmd 0x34 (framed f)).map (·.err)) =
    [some 7, some 4, some 2, some 2, some 2] := by decide +kernel
/-- V32a. -/
theorem test_rspU16 : (cmd 0x35 (framed (ascii "!0200050001ABCDFC70"))).map (fun t => (t.res, t.narrow)) =
    some (0xABCD, true) := by decide +kernel
/-- V27a with STRICT_CONTROL = 0. -/
theorem test_rspU16_lenient_control :
    (cmd 0x35 { framed (ascii "#02000342160000476B") with params := { Params.default with strictControl := false } }).map
      (fun t => (t.rctl, t.narrow, t.err)) = some (0x23, true, 0) := by decide +kernel

/-! ### Bus operations -/

/-- V34d. -/
theorem test_busCmdWrite_illegal : (cmd 0x80000018 State.reset).map (fun t => (statusWord t, t.tx)) =
    some (0x00000018, []) := by decide +kernel
theorem test_busOperandWrite : (bus (.write 0x014 4 0x12345678) State.reset).map (fun t => (t.param, t.inst)) =
    some (0x12345678, 0) := by decide +kernel
/-- V35a. -/
theorem test_busStatusWrite : (bus (.write 0x004 4 0x10) { State.reset with errs := true, err := 1 }).map
    (fun t => (t.errs, t.err)) = some (false, 1) := by decide +kernel
/-- V35b. -/
theorem test_busStatusWrite_other_bits : (bus (.write 0x004 4 0xFFFFFFEF) { State.reset with errs := true }).map (·.errs) =
    some true := by decide +kernel
/-- V36, V36a, V36c. -/
theorem test_busRead_reset :
    [0x044, 0x048, 0x0FC, 0x300, 0x000, 0x040].map (fun o => readAt o State.reset) =
      [some 0x01004003, some 0, some 0, some 0, some 0, some 0] := by decide +kernel
/-- P1's TXBUF words. -/
theorem test_busRead_window :
    [0x100, 0x10C, 0x114, 0x118].map (fun o => readAt o (sending (ascii "#020003?VR03E801AC05\r"))) =
      [some 0x30323023, some 0x31303845, some 0x0000000D, some 0] := by decide +kernel
/-- V24. -/
theorem test_busRxdataWrite : (bus (.write 0x040 4 0x12345641) State.reset).map (·.rx) = some [0x41] := by decide +kernel
/-- V21, V21a: RX_CAP = 32. -/
theorem test_busRxdataWrite_full :
    (bus (.write 0x040 4 0x0D) { withParams { Params.default with rxCap := 32 } with rx := List.replicate 32 0x58 }).map
      statusWord = some 0x00002200 := by decide +kernel
/-- V36b: a write to RES does nothing. -/
theorem test_readOnly_write : bus (.write 0x020 4 5) State.reset = some State.reset := by decide +kernel

/-! ### Reset -/

theorem test_reset_event :
    nextOf (step { framed (ascii "AB") with opa := 7, err := 3, errs := true, pending := [.reset] }) = some State.reset := by
  decide +kernel

/-! ### One concrete case for the hypotheses of each statement

`exists_next` turns a computed check into the existence of the next state a hypothesis speaks of. -/

theorem exists_next {o : Result} {P : State → Prop} [DecidablePred P]
    (h : (nextOf o).any (fun t => decide (P t)) = true) : ∃ t, o = .next t ∧ P t := by
  cases o with
  | next t => exact ⟨t, rfl, by simpa [nextOf] using h⟩
  | fault r => simp [nextOf] at h
  | refused r => simp [nextOf] at h

/-- A word the decoder rejects is no command's. -/
theorem no_command {w : Word} {e : WordReject} (h : decodeCommand w = .error e) : ¬ ∃ i, decodeCommand w = .ok i := by
  rintro ⟨i, hi⟩
  rw [h] at hi
  cases hi

theorem witness_DecodeEncodeAgreeOnCommands :
    isCommand (.decF32 255) = true ∧ decodeCommand 0x0000FF32 = .ok (.decF32 255) := ⟨by decide, rfl⟩

theorem witness_AccessDecodeEncodeAgree :
    (Instr.wellFormed (.busRead 0xFFC) = true ∧ isCommand (.busRead 0xFFC) = false) ∧
    (Instr.wellFormed .rspU16 = true ∧ isCommand .rspU16 = true) := by decide

theorem witness_LegalWordsAndIllegalCommand :
    decodeCommand 0x00000115 = .ok (.encTok .vs) ∧ ¬ ∃ i, decodeCommand 0x00000215 = .ok i :=
  ⟨rfl, no_command (e := .selOutOfRange) rfl⟩

theorem witness_StepRunsTheDecodedInstruction :
    (∃ (s : State) (a : Access) (rest : List HostEvent) (i : Instr), s.pending = .access a :: rest ∧
      decodeAccess s.params.base a = .ok (.run i)) ∧
    (∃ (s : State) (w : Word) (rest : List HostEvent) (i : Instr),
      s.pending = .access (.write s.params.base 4 w) :: rest ∧ decodeCommand w = .ok i) :=
  ⟨⟨State.reset.withPending [.access (.read 0x44 4)], .read 0x44 4, [], .busRead 0x44, rfl, rfl⟩,
   ⟨State.reset.withPending [.access (.write 0 4 0x35)], 0x35, [], .rspU16, rfl, rfl⟩⟩

theorem witness_UndefinedAccessesHaveNoStep_width : ∃ (s : State) (addr width : Nat),
    s.pending = [.access (.read addr width)] ∧ (s.params.base ≤ addr ∧ addr < s.params.base + 0x1000) ∧ width ≠ 4 :=
  ⟨State.reset.withPending [.access (.read 0xFFF 1)], 0xFFF, 1, rfl, by decide, by decide⟩

theorem witness_UndefinedAccessesHaveNoStep_alignment : ∃ (s : State) (addr width : Nat),
    s.pending = [.access (.read addr width)] ∧ (s.params.base ≤ addr ∧ addr < s.params.base + 0x1000) ∧ width = 4 ∧
      (addr - s.params.base) % 4 ≠ 0 :=
  ⟨State.reset.withPending [.access (.read 0xFFE 4)], 0xFFE, 4, rfl, by decide, rfl, by decide⟩

theorem witness_UndefinedAccessesHaveNoStep_outside : ∃ (s : State) (addr width : Nat),
    s.pending = [.access (.read addr width)] ∧ ¬ (s.params.base ≤ addr ∧ addr < s.params.base + 0x1000) :=
  ⟨State.reset.withPending [.access (.read 0x1000 4)], 0x1000, 4, rfl, by decide⟩

theorem witness_UndefinedAccessesHaveNoStep_idle : State.reset.pending = [] := rfl

theorem witness_UnmappedAndReadOnlyAccesses_read : ∀ off ∈ [0x048, 0x0FC, 0x300, 0xFFC, 0x000, 0x040], off % 4 = 0 ∧
    ((0x048 ≤ off ∧ off < 0x100) ∨ (0x300 ≤ off ∧ off < 0x1000) ∨ off = 0x000 ∨ off = 0x040) := by decide

theorem witness_UnmappedAndReadOnlyAccesses_write : ∀ off ∈ [0x020, 0x03C, 0x044, 0xFFC], off % 4 = 0 ∧
    ((0x020 ≤ off ∧ off < 0x040) ∨ (0x044 ≤ off ∧ off < 0x1000)) ∧
    ∃ s : State, s.pending = [.access (.write (s.params.base + off) 4 5)] := by
  intro off h
  refine ⟨?_, ?_, State.reset.withPending [.access (.write (0 + off) 4 5)], rfl⟩
  all_goals revert h
  all_goals revert off
  all_goals decide

theorem witness_UnmappedAndReadOnlyAccesses_status : (0xFFFFFFEF : Word).getLsbD 4 = false := by decide

theorem witness_DefinedAccessesRunToTheEnd : ∃ s : State, s.pending = [.reset, .access (.read 0x44 4)] ∧
    ∀ e ∈ s.pending, e = .reset ∨ ∃ a b, e = .access a ∧ decodeAccess s.params.base a = .ok b := by
  refine ⟨State.reset.withPending [.reset, .access (.read 0x44 4)], rfl, ?_⟩
  intro e he
  simp only [State.withPending, List.mem_cons, List.not_mem_nil, or_false] at he
  rcases he with rfl | rfl
  · exact .inl rfl
  · exact .inr ⟨.read 0x44 4, .run (.busRead 0x44), rfl, rfl⟩

theorem witness_StepKeepsTheBlockBounds : ∃ s t : State, State.Inv s ∧ step s = .next t ∧ t.frame = ascii "AB" := by
  obtain ⟨t, h, ht⟩ := exists_next (o := step ((received (ascii "AB\rCD")).withFetchWord 32 0x20))
    (P := fun t => t.frame = ascii "AB") (by decide +kernel)
  exact ⟨_, t, by decide +kernel, h, ht⟩

theorem witness_EveryCommandCompletes : isCommand .rspF32 = true := rfl

theorem witness_ErrsIsStickyAndErrIsTheCommands :
    (endsACommand .encU8 = true ∧ ∃ t, exec .encU8 { State.reset with opa := 0x100 } = .next t ∧ t.err = 1) ∧
    (∃ t, exec (.busStatusWrite 0x10) { State.reset with errs := true } = .next t ∧ t.errs = false) ∧
    (endsACommand (.busRxdataWrite 0x41) = false ∧
      ∃ t, exec (.busRxdataWrite 0x41) { State.reset with err := 3 } = .next t ∧ t.err = 3) ∧
    (∃ t, step { State.reset with pending := [.reset], errs := true } = .next t ∧ t.errs = false) :=
  ⟨⟨rfl, exists_next (by decide +kernel)⟩, exists_next (by decide +kernel), ⟨rfl, exists_next (by decide +kernel)⟩,
    exists_next (by decide +kernel)⟩

theorem witness_OldErrorDoesNotMatter : endsACommand (.busCmdWrite 0x18) = true ∧
    ∃ t, exec (.busCmdWrite 0x18) State.reset = .next t ∧ t.err = 0 := ⟨rfl, exists_next (by decide +kernel)⟩

theorem witness_FailedCommandChangesNothing :
    (endsACommand .encU8 = true ∧ performed .encU8 ≠ some .rxTimeout ∧
      ∃ t, exec .encU8 { State.reset with opa := 0x100 } = .next t ∧ isErrorCode t.err = true) ∧
    (performed (.busCmdWrite 0x24) = some .rxTimeout ∧
      ∃ t, exec (.busCmdWrite 0x24) (received (ascii "!02")) = .next t ∧ isErrorCode t.err = true) :=
  ⟨⟨rfl, by decide, exists_next (by decide +kernel)⟩, ⟨rfl, exists_next (by decide +kernel)⟩⟩

theorem witness_WouldBlockChangesOnlyErr : endsACommand .rxPop = true ∧
    ∃ t, exec .rxPop (received (ascii "!02")) = .next t ∧ t.err = 10 := ⟨rfl, exists_next (by decide +kernel)⟩

/-- Each code but 8 is reached by a command; 8 is the CMD write's own (R235). -/
theorem witness_ErrorCodesByCommand :
    ([(.asmVs, { State.reset with inst := 0x100 }, 1), (.crcFrm 1, State.reset, 2), (.decTok 0, State.reset, 3),
      (.rspU16, framed (ascii "!0200060B3A"), 4), (.rxTimeout, State.reset, 5),
      (.rxPop, { State.reset with closed := true }, 6), (.rspF32, framed (ascii "!020003421600000AB3"), 7),
      (.encTerm, sending (List.replicate 64 0x30), 9), (.rxPop, State.reset, 10)] :
      List (Instr × State × BitVec 4)).all
      (fun x => isCommand x.1 && ((nextOf (exec x.1 x.2.1)).any (fun t => t.err == x.2.2))) = true := by decide +kernel

theorem witness_OperandRegistersWrittenOnlyByTheHost : ∃ t, exec .asmVr State.reset = .next t ∧ t.err = 0 :=
  exists_next (by decide +kernel)

theorem witness_ResultRegisterWriters :
    (∃ t, exec (.decU8 0) (framed (ascii "FF")) = .next t ∧ t.res ≠ (framed (ascii "FF")).res) ∧
    (∃ t, exec .rspF32 (framed (ascii "!020003421600000AB2")) = .next t ∧ t.rctl ≠ 0 ∧ t.raddr ≠ 0 ∧ t.rseq ≠ 0) ∧
    (∃ t, exec .crcByte { State.reset with opa := 0x41 } = .next t ∧ t.crc ≠ 0) :=
  ⟨exists_next (by decide +kernel), exists_next (by decide +kernel), exists_next (by decide +kernel)⟩

theorem witness_BufferWriters :
    (∃ t, exec .encTerm State.reset = .next t ∧ t.tx ≠ []) ∧
    (∃ t, exec .rxPop (received (ascii "A\r")) = .next t ∧ t.rx ≠ ascii "A\r" ∧ t.frame ≠ []) ∧
    (∃ t, exec (.busRxdataWrite 0x41) State.reset = .next t ∧ t.rx ≠ []) :=
  ⟨exists_next (by decide +kernel), exists_next (by decide +kernel), exists_next (by decide +kernel)⟩

theorem witness_StatusBitWriters :
    (∃ t, exec (.busRxdataWrite 0x41) (received (List.replicate 256 0x58)) = .next t ∧ t.rxovf = true) ∧
    (∃ t, exec .rspU16 (framed (ascii "!0200050001ABCDFC70")) = .next t ∧ t.narrow ≠ false) ∧
    (∃ t, step { State.reset with pending := [.reset], closed := true } = .next t ∧ t.closed = false) :=
  ⟨exists_next (by decide +kernel), exists_next (by decide +kernel), exists_next (by decide +kernel)⟩

theorem witness_OnlyCrcByteReadsTheCrcRegister : isCommand .encCrc = true ∧ (Instr.encCrc ≠ .crcByte) ∧
    (∃ t, exec .encCrc (sending (ascii "A")) = .next t ∧ t.crc = 0x58E5) ∧
    (∃ t, exec .encCrc (sending (List.replicate 64 0x30)) = .next t ∧ t.err = 9) :=
  ⟨rfl, by decide, exists_next (by decide +kernel), exists_next (by decide +kernel)⟩

theorem witness_HexRendering : 15 ≤ 15 ∧ hexDigit 15 = 0x46 ∧ hexDigit 0 = 0x30 := by decide

theorem witness_HexParsing : unhex true (ascii "0a") = some 10 ∧ unhex false (ascii "0a") = none := by decide +kernel

theorem witness_UnhexOfHex : 0xFFFFFFFF < 16 ^ 8 ∧ unhex false (hexN 8 0xFFFFFFFF) = some 0xFFFFFFFF := by decide +kernel

theorem witness_OneByteChangesTheChecksum : (0x41 : Byte) ≠ 0x42 := by decide

theorem witness_CrcByteSteps : (0xFF : Word).toNat ≤ 0xFF ∧ 0xFF < (0x100 : Word).toNat := by decide

theorem witness_CrcOfBuffers : (2 : Byte).toNat ≤ (framed (ascii "AB")).frame.length ∧
    (framed (ascii "AB")).frame.length < (3 : Byte).toNat := by decide +kernel

theorem witness_EncCrcAppendsTheChecksum :
    (sending (List.replicate 60 0x30)).tx.length + 4 ≤ (sending []).params.txCap ∧
    (sending []).params.txCap < (sending (List.replicate 61 0x30)).tx.length + 4 := by decide +kernel

theorem witness_EncU8AndU16AppendTheirDigits :
    ((0xFF : Word).toNat ≤ 0xFF ∧ 62 + 2 ≤ Params.default.txCap) ∧ 0xFF < (0x100 : Word).toNat ∧
    ((0xFF : Word).toNat ≤ 0xFF ∧ Params.default.txCap < 63 + 2) ∧
    ((0xFFFF : Word).toNat ≤ 0xFFFF ∧ 60 + 4 ≤ Params.default.txCap) ∧ 0xFFFF < (0x10000 : Word).toNat ∧
    ((0xFFFF : Word).toNat ≤ 0xFFFF ∧ Params.default.txCap < 61 + 4) := by decide

theorem witness_EncF32AppendsEightDigits :
    (sending (List.replicate 56 0x30)).tx.length + 8 ≤ (sending []).params.txCap ∧
    (sending []).params.txCap < (sending (List.replicate 57 0x30)).tx.length + 8 := by decide +kernel

theorem witness_FixedByteAppends : 2 ≤ (2 : Byte).toNat ∧
    ∀ n ∈ [1, 2, 3], (sending (List.replicate (64 - n) 0x30)).tx.length + n ≤ (sending []).params.txCap ∧
      (sending []).params.txCap < (sending (List.replicate (65 - n) 0x30)).tx.length + n := by decide +kernel

/-- The largest operands in range. -/
def maxOperands : State := { State.reset with addr := 0xFF, seq := 0xFFFF, param := 0xFFFF, inst := 0xFF }

theorem witness_AsmVrBuildsTheReadFrame :
    (maxOperands.addr.toNat ≤ 0xFF ∧ maxOperands.seq.toNat ≤ 0xFFFF ∧ maxOperands.param.toNat ≤ 0xFFFF ∧
      maxOperands.inst.toNat ≤ 0xFF) ∧
    ¬ ((0x100 : Word).toNat ≤ 0xFF ∧ maxOperands.seq.toNat ≤ 0xFFFF ∧ maxOperands.param.toNat ≤ 0xFFFF ∧
      maxOperands.inst.toNat ≤ 0xFF) := by decide

theorem witness_AsmVsBuildsTheSetFrame :
    (maxOperands.addr.toNat ≤ 0xFF ∧ maxOperands.seq.toNat ≤ 0xFFFF ∧ maxOperands.param.toNat ≤ 0xFFFF ∧
      maxOperands.inst.toNat ≤ 0xFF) ∧
    ¬ (maxOperands.addr.toNat ≤ 0xFF ∧ (0x10000 : Word).toNat ≤ 0xFFFF ∧ maxOperands.param.toNat ≤ 0xFFFF ∧
      maxOperands.inst.toNat ≤ 0xFF) := by decide

theorem witness_AssembledFramesEndInTheOnlyTerminator :
    (∃ t, exec .asmVr maxOperands = .next t ∧ t.err = 0) ∧ (∃ t, exec .asmVs maxOperands = .next t ∧ t.err = 0) :=
  ⟨exists_next (by decide +kernel), exists_next (by decide +kernel)⟩

theorem witness_AssemblerEqualsThePrimitives : maxOperands.params.legal = true ∧ rangeOk maxOperands = true := by decide

theorem witness_RxdataPush :
    (received (List.replicate 255 0x58)).rx.length < Params.default.rxCap ∧
    Params.default.rxCap ≤ (received (List.replicate 256 0x58)).rx.length := by decide +kernel

theorem witness_RxPopExtractsTheFirstLine :
    ((0x0D : Byte) ∉ ascii "AB" ∧ (received (ascii "AB\rCD")).rx = ascii "AB" ++ 0x0D :: ascii "CD") ∧
    ((0x0D : Byte) ∉ (received (ascii "!02")).rx ∧ (received (ascii "!02")).closed = false) ∧
    ((0x0D : Byte) ∉ State.reset.rx ∧ (State.reset.withClosed true).closed = true) := by decide +kernel

theorem witness_FrameLinesComeOutInOrder :
    ((0x0D : Byte) ∉ ascii "AB" ∧ (0x0D : Byte) ∉ ascii "CD" ∧
      (received (ascii "AB\rCD\r")).rx = ascii "AB" ++ 0x0D :: (ascii "CD" ++ [0x0D])) ∧
    ((0x0D : Byte) ∉ (received (ascii "E")).rx ∧ (0x0D : Byte) ∉ ascii "F" ∧ (received (ascii "E")).closed = false ∧
      (received (ascii "E")).rx.length + (ascii "F").length + 1 ≤ (received (ascii "E")).params.rxCap) := by decide +kernel

theorem witness_PushedBytesLeaveInOrder :
    (∀ i ∈ [Instr.busRxdataWrite 0x41, .busRxdataWrite 0x0D, .busCmdWrite 0x20],
      performed i ≠ some .rxFlush ∧ performed i ≠ some .rxTimeout) ∧
    ((readerTrace [Instr.busRxdataWrite 0x41, .busRxdataWrite 0x0D, .busCmdWrite 0x20] (received [0x42])).map
      (fun x => (x.1.rx, x.2))) = some ([], [0x41, 0x0D], [0x42, 0x41, 0x0D]) := by decide +kernel

/-- For each of the three decoders: a field that ends at the end of FRAME, one that ends a byte beyond it, one with a
character that is no hex digit. -/
theorem witness_DecodeFieldCommands : ∀ w ∈ [2, 4, 8],
    (1 + w ≤ (framed (0x21 :: List.replicate w 0x46)).frame.length ∧
      (unhex true (((framed (0x21 :: List.replicate w 0x46)).frame.drop 1).take w)).isSome = true) ∧
    (framed (List.replicate w 0x46)).frame.length < 1 + w ∧
    (1 + w ≤ (framed (0x21 :: List.replicate w 0x47)).frame.length ∧
      unhex true (((framed (0x21 :: List.replicate w 0x47)).frame.drop 1).take w) = none) := by decide +kernel

theorem witness_DecodeTokenCommand :
    ([0x3F, 0x56, 0x52] : List Byte) <+: (framed (ascii "?VR")).frame.drop 0 ∧
    ([0x56, 0x53] : List Byte) <+: (framed (ascii "#VSX")).frame.drop 1 ∧
    (¬ ([0x3F, 0x56, 0x52] : List Byte) <+: (framed (ascii "?V")).frame.drop 0 ∧
      ¬ ([0x56, 0x53] : List Byte) <+: (framed (ascii "?V")).frame.drop 0) := by decide +kernel

theorem witness_EncodeThenDecodeRoundTrip :
    ((0xFF : Word).toNat < 16 ^ 2 ∧ (0xFFFF : Word).toNat < 16 ^ 4 ∧ (0xFFFFFFFF : Word).toNat < 16 ^ 8) ∧
    ([] : List Byte).length + 8 ≤ Params.default.txCap ∧
    ([0x21] : List Byte).length = (1 : Byte).toNat := by decide

/-- A frame line for each clause of R191, in its order (V28a, V27, V28b, V29, a checksum that is no hex, V26, V30, V25), with
the code it gives. -/
theorem witness_ResponseChecksInOrder :
    [ascii "!02000", ascii "#020003421600000AB2", ascii "!0G0003421600000AB2", ascii "!0200034216000CD34",
      ascii "!020003421600000ABG", ascii "!020003421600000AB3", ascii "!0200083F80000ZC43D",
      ascii "!020003421600000AB2"].map
      (fun f => ((nextOf (exec .rspF32 (framed f))).map (·.err), (nextOf (exec .rspU16 (framed f))).map (·.err))) =
    [(some 2, some 2), (some 2, some 2), (some 2, some 2), (some 4, some 4), (some 2, some 2), (some 7, some 7),
      (some 2, some 2), (some 0, some 0)] := by decide +kernel

theorem witness_ResponseLinesDecode : (framed (ascii "!020003421600000AB2")).frame = responseLine 0x21 2 3 0x42160000 [] ∧
    ((framed []).params.strictControl = true → (0x21 : Byte) = 0x21) := by decide +kernel

theorem witness_RspU16NarrowsRspF32 :
    (∃ t, exec .rspF32 (framed (ascii "!020003421600000AB3")) = .next t ∧ t.err ≠ 0) ∧
    (∃ t, exec .rspF32 (framed (ascii "!0200050001ABCDFC70")) = .next t ∧ t.err = 0) :=
  ⟨exists_next (by decide +kernel), exists_next (by decide +kernel)⟩

theorem witness_CorruptedResponseIsRejected :
    (∃ t, exec .rspF32 (framed (ascii "!020003421600000AB2")) = .next t ∧ t.err = 0) ∧
    (framed (ascii "!020003421600000AB2")).frame = ascii "!0200034216000" ++ 0x30 :: ascii "0AB2" ∧
    4 ≤ (ascii "0AB2").length ∧ (0x30 : Byte) ≠ 0x31 :=
  ⟨exists_next (by decide +kernel), by decide +kernel, by decide +kernel, by decide⟩

theorem witness_StatusWriteClearsErrs : (0x10 : Word).getLsbD 4 = true ∧ (0xFFFFFFEF : Word).getLsbD 4 = false := by decide

theorem witness_ReadsChangeNothing : ((0xFFC < 0x1000 ∧ 0xFFC % 4 = 0) ∧ (0xFFF < 0x1000 ∧ 0xFFF % 4 ≠ 0)) ∧
    0x1000 ≤ 0x1000 := by decide

theorem witness_CfgReportsTheParameters : (withParams ⟨256, 255, false, true, 0x4000⟩).params.legal = true ∧
    State.reset.params = Params.default := by decide

theorem witness_BufferWindows : 63 ≤ 63 ∧ 3 ≤ 3 ∧
    readAt 0x2FC (framed (List.replicate 255 0x41)) = some 0x00414141 := by decide +kernel

theorem witness_ResetValues :
    (({ State.reset with pending := [.reset] } : State).pending = .reset :: []) ∧
    (({ State.reset with pending := [.reset] } : State).params.legal = true) ∧
    (({ State.reset with pending := [.reset], err := 5 } : State).readData = none) := ⟨rfl, rfl, rfl⟩

theorem witness_ParametersNeverChange : ∃ t, step (State.reset.withFetchWord 32 0x18) = .next t ∧ t.err = 0 :=
  exists_next (by decide +kernel)

end Sys2Proof.Tests
end

section
/-! PROOF. Rendering and parsing of hex strings (00_scope.md R11, R12). -/

namespace Sys2Proof.Machine

theorem hexN_succ (n v : Nat) : hexN (n + 1) v = hexDigit (v / 16 ^ n % 16) :: hexN n v := rfl

/-- Four bits of a value are one hex digit. -/
theorem shiftRight_four_mul (v k : Nat) : v >>> (4 * k) = v / 16 ^ k := by
  rw [Nat.shiftRight_eq_div_pow, Nat.pow_mul]

/-- Byte `i` of a rendered value is the digit of its bits `4(n-1-i)+3 : 4(n-1-i)`. -/
theorem hexN_eq_map (n v : Nat) :
    hexN n v = (List.range n).map (fun i => hexDigit (v >>> (4 * (n - 1 - i)) % 16)) := by
  induction n with
  | zero => rfl
  | succ n ih =>
    rw [hexN_succ, List.range_succ_eq_map, List.map_cons, List.map_map, ih, ← shiftRight_four_mul]
    simp only [Function.comp_def, Nat.add_sub_cancel, Nat.sub_zero, Nat.sub_sub, Nat.add_comm 1, Nat.succ_eq_add_one]

/-- Every byte of a rendered value is a hex digit. -/
theorem mem_hexN {n v : Nat} {b : Byte} (h : b ∈ hexN n v) : ∃ d < 16, hexDigit d = b := by
  rw [hexN_eq_map] at h
  obtain ⟨i, -, rfl⟩ := List.mem_map.1 h
  exact ⟨_, Nat.mod_lt _ (by decide), rfl⟩

/-- Parsing stops exactly at a byte that is no hex digit, whatever was read before. -/
theorem unhexFrom_eq_none_iff (lower : Bool) (acc : Nat) (s : List Byte) :
    unhexFrom lower acc s = none ↔ ∃ c ∈ s, nib lower c = none := by
  induction s generalizing acc with
  | nil => simp
  | cons c cs ih =>
    cases h : nib lower c with
    | none => simp [unhexFrom_cons, h]
    | some d => simp [unhexFrom_cons, h, ih]

/-- The positional value of a string of hex digits, first byte most significant (R12). -/
def hexValue (lower : Bool) (s : List Byte) : Nat :=
  ((List.range s.length).map (fun i => (nib lower (s.getD i 0)).getD 0 * 16 ^ (s.length - 1 - i))).sum

@[simp] theorem hexValue_nil (lower : Bool) : hexValue lower [] = 0 := rfl

theorem hexValue_cons (lower : Bool) (c : Byte) (cs : List Byte) :
    hexValue lower (c :: cs) = (nib lower c).getD 0 * 16 ^ cs.length + hexValue lower cs := by
  simp only [hexValue, List.length_cons, List.range_succ_eq_map, List.map_cons, List.map_map, List.sum_cons,
    Function.comp_def, List.getD_cons_zero, List.getD_cons_succ, Nat.add_sub_cancel, Nat.sub_zero, Nat.sub_sub,
    Nat.add_comm 1, Nat.succ_eq_add_one]

/-- The parser adds the value of what it reads below the digits it has read so far. -/
theorem unhexFrom_eq_some {lower : Bool} {acc v : Nat} {s : List Byte} (h : unhexFrom lower acc s = some v) :
    v = acc * 16 ^ s.length + hexValue lower s := by
  induction s generalizing acc with
  | nil => simpa using h.symm
  | cons c cs ih =>
    obtain ⟨d, hd, hrest⟩ := Option.bind_eq_some_iff.1 (unhexFrom_cons lower acc c cs ▸ h)
    rw [ih hrest, hexValue_cons, hd, Option.getD_some, List.length_cons, Nat.pow_succ]
    ring

/-- Parsing a rendered value puts its low `n` digits below those read so far. -/
theorem unhexFrom_hexN (lower : Bool) (acc n v : Nat) :
    unhexFrom lower acc (hexN n v) = some (acc * 16 ^ n + v % 16 ^ n) := by
  induction n generalizing acc with
  | zero => simp [hexN, Nat.mod_one]
  | succ n ih =>
    have digit : nib lower (hexDigit (v / 16 ^ n % 16)) = some (v / 16 ^ n % 16) :=
      nib_hexDigit lower _ (Nat.mod_lt _ (by decide))
    rw [hexN_succ, unhexFrom_cons, digit, Option.bind_some, ih, Nat.mod_pow_succ, Nat.pow_succ]
    congr 1
    ring

/-- Settles O22: the digit table by its 16 cases, the positions by `hexN_eq_map`. -/
theorem hexRendering : Obligations.HexRendering := by
  refine ⟨fun d hd => ?_, hexN_eq_map⟩
  interval_cases d <;> rfl

/-- Settles O23: the failure condition and the positional sum are the parser's, started with no digit read. -/
theorem hexParsing : Obligations.HexParsing := by
  refine ⟨fun lower c => ?_, fun lower s => unhexFrom_eq_none_iff lower 0 s, fun lower s v h => ?_⟩
  · simp only [nib, and_rotate (a := lower = true)]
  · simpa [hexValue] using unhexFrom_eq_some h

/-- Settles O24: below `16 ^ n` no digit of the value is lost. -/
theorem unhexOfHex : Obligations.UnhexOfHex := by
  intro lower n v hv
  refine ⟨hexN_length n v, ?_⟩
  rw [unhex, unhexFrom_hexN, Nat.mod_eq_of_lt hv, Nat.zero_mul, Nat.zero_add]

end Sys2Proof.Machine
end

section
/-! PROOF. The invariant of every step, and the end of every command (00_scope.md R14, 60_exceptions.md R231). -/

namespace Sys2Proof.Machine

/-! ### What the encoders write (30_encoding.md R81) -/

theorem hexDigit_mem_txAlphabet {d : Nat} (h : d < 16) : hexDigit d ∈ txAlphabet := by
  have key : ∀ k : Fin 16, hexDigit k.val ∈ txAlphabet := by decide
  exact key ⟨d, h⟩

theorem hexN_subset_txAlphabet (n v : Nat) : hexN n v ⊆ txAlphabet := by
  intro b hb
  obtain ⟨d, hd, rfl⟩ := mem_hexN hb
  exact hexDigit_mem_txAlphabet hd

theorem controlByte_subset_txAlphabet (sel : ControlSel) : [controlByte sel] ⊆ txAlphabet := by
  cases sel <;> decide

theorem terminator_subset_txAlphabet : [charCR] ⊆ txAlphabet := by decide

theorem tokenBytes_subset_txAlphabet (tok : Token) : tokenBytes tok ⊆ txAlphabet := by
  cases tok <;> decide

theorem requestBody_subset_txAlphabet (tok : Token) (s : State) : requestBody tok s ⊆ txAlphabet := by
  have hash : [charHash] ⊆ txAlphabet := by decide
  simp only [requestBody, List.append_subset]
  exact ⟨⟨⟨⟨⟨hash, hexN_subset_txAlphabet _ _⟩, hexN_subset_txAlphabet _ _⟩, tokenBytes_subset_txAlphabet tok⟩,
    hexN_subset_txAlphabet _ _⟩, hexN_subset_txAlphabet _ _⟩

theorem frameOf_subset_txAlphabet {body : List Byte} (h : body ⊆ txAlphabet) : frameOf body ⊆ txAlphabet := by
  simp only [frameOf, List.append_subset]
  exact ⟨⟨h, hexN_subset_txAlphabet _ _⟩, terminator_subset_txAlphabet⟩

@[simp] theorem frameOf_length (body : List Byte) : (frameOf body).length = body.length + 5 := by simp [frameOf]

@[simp] theorem requestBody_length (tok : Token) (s : State) :
    (requestBody tok s).length = 13 + (tokenBytes tok).length := by
  simp only [requestBody, List.length_append, hexN_length, List.length_singleton]
  omega

/-- The legal parameter ranges of 00_scope.md R7, as bounds. -/
theorem params_legal_iff (p : Params) :
    p.legal = true ↔ (32 ≤ p.rxCap ∧ p.rxCap ≤ 256) ∧ 28 ≤ p.txCap ∧ p.txCap ≤ 255 := by
  simp only [Params.legal, Bool.and_eq_true, decide_eq_true_eq, and_assoc]

/-! ### What a successful decode says of FRAME -/

/-- A field that decodes lies inside FRAME (40_codec.md R106). -/
theorem length_of_frameField_eq_some {lower : Bool} {frame : List Byte} {off w v : Nat}
    (h : frameField lower frame off w = some v) : off + w ≤ frame.length := by
  by_contra hlt
  rw [frameField, if_pos (Nat.lt_of_not_le hlt)] at h
  cases h

/-- A token that decodes lies inside FRAME (40_codec.md R113). -/
theorem length_of_frameToken_eq_some {frame : List Byte} {off : Nat} {tok : Token}
    (h : frameToken frame off = some tok) : off + 2 ≤ frame.length := by
  unfold frameToken at h
  split at h
  next hvr => omega
  next =>
    split at h
    next hvs =>
      obtain ⟨inside, -⟩ := hvs
      exact inside
    next => cases h

/-- The control byte a parsed response reports is the frame line's first byte (44_response.md R191, R194). -/
theorem ctl_of_parseResponse_ok {p : Params} {frame : List Byte} {r : Response} (h : parseResponse p frame = .ok r) :
    r.ctl = frame.getD 0 0 := by
  obtain ⟨-, -, a, q, -, -, htail⟩ := parseResponse_ok h
  obtain ⟨c, v, -, -, -, rfl⟩ := parseTail_ok htail
  rfl

/-! ### The updates that keep the invariant

An update of a field that `State.Inv` does not name keeps it as it stands. -/

namespace State.Inv

variable {s : State}

theorem endWith (h : s.Inv) (e : ErrorCode) : (s.endWith e).Inv := by
  obtain ⟨hparams, htx, hrx, hframe, halphabet, hcr, -, hfresh, hctl⟩ := h
  exact ⟨hparams, htx, hrx, hframe, halphabet, hcr, errorBits_le e, hfresh, hctl⟩

theorem withOperand (h : s.Inv) (r : OperandReg) (v : Word) : (s.withOperand r v).Inv := by
  cases r <;> exact h

theorem withCrc (h : s.Inv) (c : Half) : (s.withCrc c).Inv := h

theorem withErrs (h : s.Inv) (b : Bool) : (s.withErrs b).Inv := h

theorem withRxovf (h : s.Inv) (b : Bool) : (s.withRxovf b).Inv := h

theorem withClosed (h : s.Inv) (b : Bool) : (s.withClosed b).Inv := h

theorem withPending (h : s.Inv) (es : List HostEvent) : (s.withPending es).Inv := h

theorem withReadData (h : s.Inv) (v : Word) : (s.withReadData v).Inv := h

theorem withTx (h : s.Inv) {bs : List Byte} (room : bs.length ≤ s.params.txCap) (enc : bs ⊆ txAlphabet) :
    (s.withTx bs).Inv := by
  obtain ⟨hparams, -, hrx, hframe, -, hcr, herr, hfresh, hctl⟩ := h
  exact ⟨hparams, room, hrx, hframe, fun _ hb => enc hb, hcr, herr, hfresh, hctl⟩

theorem withTx_append (h : s.Inv) {bs : List Byte} (room : s.tx.length + bs.length ≤ s.params.txCap)
    (enc : bs ⊆ txAlphabet) : (s.withTx (s.tx ++ bs)).Inv := by
  have ⟨_, _, _, _, halphabet, _⟩ := h
  exact h.withTx (by simpa using room) (List.append_subset.2 ⟨fun _ hb => halphabet _ hb, enc⟩)

theorem withRx (h : s.Inv) {bs : List Byte} (room : bs.length ≤ s.params.rxCap) : (s.withRx bs).Inv := by
  obtain ⟨hparams, htx, -, hframe, halphabet, hcr, herr, hfresh, hctl⟩ := h
  exact ⟨hparams, htx, room, hframe, halphabet, hcr, herr, hfresh, hctl⟩

/-- A popped line and its terminator came out of RX, so the line is shorter than RX_CAP (43_reader.md R172). -/
theorem withPopped (h : s.Inv) {line rest : List Byte} (popped : splitAtCR s.rx = some (line, rest)) :
    (s.withPopped line rest).Inv := by
  obtain ⟨hparams, htx, hrx, -, halphabet, -, herr, -, hctl⟩ := h
  obtain ⟨hsplit, hcr⟩ := splitAtCR_some popped
  have hlength : line.length + (rest.length + 1) ≤ s.params.rxCap := by simpa [hsplit] using hrx
  have hrest : rest.length ≤ s.params.rxCap := by omega
  have hline : line.length + 1 ≤ s.params.rxCap := by omega
  exact ⟨hparams, htx, hrest, hline, halphabet, hcr, herr, nofun, hctl⟩

/-- A frame line that is not empty was popped (10_state.md R44). -/
theorem fvalid_of_frame (h : s.Inv) (hframe : 0 < s.frame.length) : s.fvalid = true := by
  obtain ⟨-, -, -, -, -, -, -, hfresh, -⟩ := h
  by_contra hf
  obtain ⟨hnil, -⟩ := hfresh (by simpa using hf)
  simp [hnil] at hframe

/-- With a frame line that is not empty, what FVALID = 0 says of the fields decoded from it holds of any values. -/
theorem not_fresh_of_frame (h : s.Inv) (hframe : 0 < s.frame.length) {P : Prop} (hf : s.fvalid = false) : P := by
  simp [h.fvalid_of_frame hframe] at hf

theorem withRes (h : s.Inv) (hframe : 0 < s.frame.length) (v : Word) : (s.withRes v).Inv := by
  have ⟨hparams, htx, hrx, hlen, halphabet, hcr, herr, _, hctl⟩ := h
  exact ⟨hparams, htx, hrx, hlen, halphabet, hcr, herr, h.not_fresh_of_frame hframe, hctl⟩

theorem withNarrow (h : s.Inv) (hframe : 0 < s.frame.length) (b : Bool) : (s.withNarrow b).Inv := by
  have ⟨hparams, htx, hrx, hlen, halphabet, hcr, herr, _, hctl⟩ := h
  exact ⟨hparams, htx, hrx, hlen, halphabet, hcr, herr, h.not_fresh_of_frame hframe, hctl⟩

/-- The header of a parsed response keeps the invariant (44_response.md R194 to R196). -/
theorem storeHeader (h : s.Inv) {r : Response} (parsed : parseResponse s.params s.frame = .ok r) :
    (storeHeader r s).Inv := by
  obtain ⟨hlength, hbang, -⟩ := parseResponse_ok parsed
  have hframe : 0 < s.frame.length := by omega
  have hrctl : s.params.strictControl = true → r.ctl = 0 ∨ r.ctl = charBang :=
    fun hs => .inr ((ctl_of_parseResponse_ok parsed).trans (hbang hs))
  have ⟨hparams, htx, hrx, hlen, halphabet, hcr, herr, _, _⟩ := h
  exact ⟨hparams, htx, hrx, hlen, halphabet, hcr, herr, h.not_fresh_of_frame hframe, hrctl⟩

/-- A push fits RX or is dropped (43_reader.md R171). -/
theorem pushByte (h : s.Inv) (b : Byte) : (pushByte b s).Inv := by
  rcases pushByte_cases b s with ⟨room, push⟩ | ⟨-, push⟩
  · rw [push]
    exact h.withRx (by simpa using room)
  · rw [push]
    exact h.withRxovf true

/-- The reset input keeps the legal parameters (70_reset_and_hazards.md R261) and empties the rest (R260). -/
theorem resetBlock (h : s.Inv) : (resetBlock s).Inv := by
  obtain ⟨hparams, -⟩ := h
  obtain ⟨⟨hrx, -⟩, -⟩ := (params_legal_iff _).1 hparams
  have hframe : 0 + 1 ≤ s.params.rxCap := by omega
  exact ⟨hparams, Nat.zero_le _, Nat.zero_le _, hframe, nofun, nofun, Nat.zero_le _,
    fun _ => ⟨rfl, rfl, rfl, rfl, rfl, rfl⟩, fun _ => .inl rfl⟩

end State.Inv

/-! ### How each command ends -/

/-- An outcome in which a command ends as 60_exceptions.md R231 says, its code written last, and its body keeps the
invariant. -/
def EndsKeepingInv (s : State) (o : Result) : Prop :=
  ∃ (u : State) (e : ErrorCode), o = .next (u.endWith e) ∧ (s.Inv → u.Inv)

theorem EndsKeepingInv.of_raise (e : ErrorCode) (s : State) : EndsKeepingInv s (raise e s) := ⟨s, e, rfl, id⟩

theorem EndsKeepingInv.of_ok {s u : State} (h : s.Inv → u.Inv) : EndsKeepingInv s (commandOk u) := ⟨u, .ok, rfl, h⟩

/-- A check of the operands before the rest of a command. -/
theorem EndsKeepingInv.of_guard {p : Prop} [Decidable p] {s : State} {o : Result} (e : ErrorCode)
    (h : EndsKeepingInv s o) : EndsKeepingInv s (if p then raise e s else o) := by
  split
  · exact .of_raise e s
  · exact h

theorem EndsKeepingInv.exists_next {s : State} {o : Result} (h : EndsKeepingInv s o) : ∃ t, o = .next t := by
  obtain ⟨u, e, rfl, -⟩ := h
  exact ⟨_, rfl⟩

theorem EndsKeepingInv.inv {s t : State} {o : Result} (h : EndsKeepingInv s o) (hs : s.Inv) (ht : o = .next t) :
    t.Inv := by
  obtain ⟨u, e, rfl, hu⟩ := h
  cases ht
  exact (hu hs).endWith e

theorem appendCommand_ends {bs : List Byte} (enc : bs ⊆ txAlphabet) (s : State) :
    EndsKeepingInv s (appendCommand bs s) := by
  rcases appendCommand_cases bs s with ⟨room, o⟩ | ⟨-, o⟩
  · exact ⟨_, _, o, fun h => h.withTx_append room enc⟩
  · exact ⟨_, _, o, id⟩

theorem decodeField_ends (off : Byte) {w : Nat} (hw : 0 < w) (s : State) : EndsKeepingInv s (decodeField off w s) := by
  rcases decodeField_cases off w s with ⟨v, field, o⟩ | ⟨-, o⟩
  · have inside := length_of_frameField_eq_some field
    exact ⟨_, _, o, fun h => h.withRes (by omega) _⟩
  · exact ⟨_, _, o, id⟩

/-- An assembled frame of at most 28 bytes fits every legal TX (42_assembler.md R154 to R156). -/
theorem assemble_ends {body : List Byte} (enc : body ⊆ txAlphabet) (short : body.length + 5 ≤ 28) (s : State) :
    EndsKeepingInv s (assemble body s) := by
  rcases assemble_cases body s with ⟨-, o⟩ | ⟨-, o⟩
  · refine ⟨_, _, o, fun h => (h.withTx ?_ (frameOf_subset_txAlphabet enc)).withCrc _⟩
    obtain ⟨hparams, -⟩ := h
    obtain ⟨-, htx, -⟩ := (params_legal_iff _).1 hparams
    rw [frameOf_length]
    omega
  · exact ⟨_, _, o, id⟩

theorem execAsmVr_ends (s : State) : EndsKeepingInv s (execAsmVr s) :=
  assemble_ends (requestBody_subset_txAlphabet .vr s) (by simp [tokenBytes]) s

theorem execAsmVs_ends (s : State) : EndsKeepingInv s (execAsmVs s) :=
  assemble_ends (List.append_subset.2 ⟨requestBody_subset_txAlphabet .vs s, hexN_subset_txAlphabet _ _⟩)
    (by simp [tokenBytes]) s

theorem execEncCrc_ends (s : State) : EndsKeepingInv s (execEncCrc s) := by
  rcases txAppend_cases (hexN 4 (crc16 s.tx).toNat) s with ⟨room, append⟩ | ⟨-, append⟩
  · rw [execEncCrc, append]
    exact .of_ok fun h => (h.withTx_append room (hexN_subset_txAlphabet _ _)).withCrc _
  · rw [execEncCrc, append]
    exact .of_raise _ s

theorem execDecTok_ends (off : Byte) (s : State) : EndsKeepingInv s (execDecTok off s) := by
  unfold execDecTok
  split
  next tok token =>
    have inside := length_of_frameToken_eq_some token
    exact .of_ok fun h => h.withRes (by omega) _
  next => exact .of_raise _ s

theorem execRxPop_ends (s : State) : EndsKeepingInv s (execRxPop s) := by
  unfold execRxPop
  split
  next line rest popped => exact .of_ok fun h => h.withPopped popped
  next => exact .of_guard _ (.of_raise _ s)

theorem execRxFlush_ends (s : State) : EndsKeepingInv s (execRxFlush s) :=
  .of_ok fun h => (h.withRx (Nat.zero_le _)).withRxovf false

/-- RX_TIMEOUT's error leaves RX empty (43_reader.md R176). -/
theorem execRxTimeout_ends (s : State) : EndsKeepingInv s (execRxTimeout s) :=
  ⟨s.withRx [], .timeout, rfl, fun h => h.withRx (Nat.zero_le _)⟩

theorem execRspF32_ends (s : State) : EndsKeepingInv s (execRspF32 s) := by
  unfold execRspF32
  split
  next => exact .of_raise _ s
  next r parsed =>
    obtain ⟨hlen, -⟩ := parseResponse_ok parsed
    have hframe : 0 < (storeHeader r s).frame.length := Nat.lt_of_lt_of_le (by decide) hlen
    exact .of_ok fun h => (h.storeHeader parsed).withRes hframe _

theorem execRspU16_ends (s : State) : EndsKeepingInv s (execRspU16 s) := by
  unfold execRspU16
  split
  next => exact .of_raise _ s
  next r parsed =>
    obtain ⟨hlen, -⟩ := parseResponse_ok parsed
    have hframe : 0 < (storeHeader r s).frame.length := Nat.lt_of_lt_of_le (by decide) hlen
    refine .of_ok fun h => ((h.storeHeader parsed).withRes hframe _).withNarrow ?_ _
    exact hframe

/-- Whatever a CMD write runs ends with a code and keeps the invariant (45_control.md R211). -/
theorem performCommand_ends (i : Instr) (s : State) : EndsKeepingInv s (performCommand i s) := by
  cases i with
  | nop => exact .of_ok id
  | crcClr => exact .of_ok fun h => h.withCrc _
  | crcByte => exact .of_guard _ (.of_ok fun h => h.withCrc _)
  | crcTx => exact .of_ok fun h => h.withCrc _
  | crcFrm n => exact .of_guard _ (.of_ok fun h => h.withCrc _)
  | txClr => exact .of_ok fun h => h.withTx (Nat.zero_le _) (List.nil_subset _)
  | txCtl sel => exact appendCommand_ends (controlByte_subset_txAlphabet sel) s
  | encU8 => exact .of_guard _ (appendCommand_ends (hexN_subset_txAlphabet _ _) s)
  | encU16 => exact .of_guard _ (appendCommand_ends (hexN_subset_txAlphabet _ _) s)
  | encF32 => exact appendCommand_ends (hexN_subset_txAlphabet _ _) s
  | encTok tok => exact appendCommand_ends (tokenBytes_subset_txAlphabet tok) s
  | encCrc => exact execEncCrc_ends s
  | encTerm => exact appendCommand_ends terminator_subset_txAlphabet s
  | asmVr => exact execAsmVr_ends s
  | asmVs => exact execAsmVs_ends s
  | rxPop => exact execRxPop_ends s
  | rxFlush => exact execRxFlush_ends s
  | rxClose => exact .of_ok fun h => h.withClosed true
  | rxOpen => exact .of_ok fun h => h.withClosed false
  | rxTimeout => exact execRxTimeout_ends s
  | decU8 off => exact decodeField_ends off (by decide) s
  | decU16 off => exact decodeField_ends off (by decide) s
  | decF32 off => exact decodeField_ends off (by decide) s
  | decTok off => exact execDecTok_ends off s
  | rspF32 => exact execRspF32_ends s
  | rspU16 => exact execRspU16_ends s
  | busCmdWrite _ | busOperandWrite _ _ | busStatusWrite _ | busRead _ | busRxdataWrite _ => exact .of_raise _ s

/-- An instruction that is a command runs as it does from CMD (45_control.md R211). -/
theorem exec_eq_performCommand {i : Instr} (h : isCommand i = true) (s : State) : exec i s = performCommand i s := by
  cases i with
  | busCmdWrite _ | busOperandWrite _ _ | busStatusWrite _ | busRead _ | busRxdataWrite _ => cases h
  | _ => rfl

theorem execBusCmdWrite_ends (w : Word) (s : State) : EndsKeepingInv s (execBusCmdWrite w s) := by
  unfold execBusCmdWrite
  split
  · exact .of_raise _ s
  · exact performCommand_ends _ s

/-! ### Steps -/

theorem execBusStatusWrite_keeps_inv {v : Word} {s t : State} (h : s.Inv) (ht : execBusStatusWrite v s = .next t) :
    t.Inv := by
  unfold execBusStatusWrite at ht
  split at ht
  · cases ht
    exact h.withErrs false
  · cases ht
    exact h

theorem execBusRead_keeps_inv {off : Nat} {s t : State} (h : s.Inv) (ht : execBusRead off s = .next t) : t.Inv := by
  unfold execBusRead at ht
  split at ht
  · exact absurd ht (rejectAccess_not_next _ t)
  · cases ht
    exact h.withReadData _

/-- Every instruction keeps the invariant. -/
theorem exec_keeps_inv {i : Instr} {s t : State} (h : s.Inv) (ht : exec i s = .next t) : t.Inv := by
  cases i with
  | busCmdWrite w => exact (execBusCmdWrite_ends w s).inv h ht
  | busOperandWrite r v =>
    cases ht
    exact h.withOperand r v
  | busStatusWrite v => exact execBusStatusWrite_keeps_inv h ht
  | busRead off => exact execBusRead_keeps_inv h ht
  | busRxdataWrite w =>
    cases ht
    exact h.pushByte _
  | _ => exact (performCommand_ends _ s).inv h ((exec_eq_performCommand rfl s).symm.trans ht)

/-- All that a step that gives a next state can do: a reset, an instruction, or a write without effect. -/
theorem step_eq_next_cases {s t : State} (h : step s = .next t) :
    (∃ rest, s.pending = .reset :: rest ∧ t = resetBlock (s.withPending rest)) ∨
    (∃ a rest i, s.pending = .access a :: rest ∧ decodeAccess s.params.base a = .ok (.run i) ∧
      exec i (s.withPending rest) = .next t) ∨
    (∃ a rest, s.pending = .access a :: rest ∧ decodeAccess s.params.base a = .ok .noEffect ∧
      t = s.withPending rest) := by
  unfold step at h
  rcases fetch_cases s with ⟨-, hf⟩ | ⟨rest, hp, hf⟩ | ⟨a, rest, hp, hf⟩
  · rw [hf] at h
    cases h
  · rw [hf] at h
    cases h
    exact .inl ⟨rest, hp, rfl⟩
  · rcases fetchAccess_cases a (s.withPending rest) with ⟨e, -, ha⟩ | ⟨i, hd, ha⟩ | ⟨hd, ha⟩
    · rw [hf, ha] at h
      exact absurd h (rejectAccess_not_next e t)
    · rw [hf, ha] at h
      exact .inr (.inl ⟨a, rest, i, hp, hd, h⟩)
    · rw [hf, ha] at h
      cases h
      exact .inr (.inr ⟨a, rest, hp, hd, rfl⟩)

/-- Settles O10: taking the event keeps the invariant, and so does what the event asks for. -/
theorem stepKeepsTheBlockBounds : Obligations.StepKeepsTheBlockBounds := by
  intro s t h hstep
  rcases step_eq_next_cases hstep with ⟨rest, -, rfl⟩ | ⟨-, rest, i, -, -, hexec⟩ | ⟨-, rest, -, -, rfl⟩
  · exact (h.withPending rest).resetBlock
  · exact exec_keeps_inv (h.withPending rest) hexec
  · exact h.withPending rest

/-- Settles O11: each command's end is `performCommand_ends`, a CMD write's is `execBusCmdWrite_ends`. -/
theorem everyCommandCompletes : Obligations.EveryCommandCompletes := by
  refine ⟨fun i s h => ?_, fun w s => (execBusCmdWrite_ends w s).exists_next⟩
  rw [exec_eq_performCommand h]
  exact (performCommand_ends i s).exists_next

end Sys2Proof.Machine
end

section
/-! PROOF. What each instruction writes: the registers, buffers and STATUS bits of 10_state.md R21 to R45. -/

namespace Sys2Proof.Machine

/-! ### How a command ends, and what it writes -/

/-- `Writes s j u`: `u` is `s` with new values in the fields that the command `j` writes when it succeeds, whatever the
values are (10_state.md R27 to R34 and R42 to R45). RX_TIMEOUT never succeeds. -/
inductive Writes (s : State) : Instr → State → Prop
  | nop : Writes s .nop s
  | crcClr (c : Half) : Writes s .crcClr (s.withCrc c)
  | crcByte (c : Half) : Writes s .crcByte (s.withCrc c)
  | crcTx (c : Half) : Writes s .crcTx (s.withCrc c)
  | crcFrm (n : Byte) (c : Half) : Writes s (.crcFrm n) (s.withCrc c)
  | txClr (bs : List Byte) : Writes s .txClr (s.withTx bs)
  | txCtl (sel : ControlSel) (bs : List Byte) : Writes s (.txCtl sel) (s.withTx bs)
  | encU8 (bs : List Byte) : Writes s .encU8 (s.withTx bs)
  | encU16 (bs : List Byte) : Writes s .encU16 (s.withTx bs)
  | encF32 (bs : List Byte) : Writes s .encF32 (s.withTx bs)
  | encTok (tok : Token) (bs : List Byte) : Writes s (.encTok tok) (s.withTx bs)
  | encCrc (bs : List Byte) (c : Half) : Writes s .encCrc ((s.withTx bs).withCrc c)
  | encTerm (bs : List Byte) : Writes s .encTerm (s.withTx bs)
  | asmVr (bs : List Byte) (c : Half) : Writes s .asmVr ((s.withTx bs).withCrc c)
  | asmVs (bs : List Byte) (c : Half) : Writes s .asmVs ((s.withTx bs).withCrc c)
  | rxPop (line rest : List Byte) : Writes s .rxPop (s.withPopped line rest)
  | rxFlush : Writes s .rxFlush ((s.withRx []).withRxovf false)
  | rxClose : Writes s .rxClose (s.withClosed true)
  | rxOpen : Writes s .rxOpen (s.withClosed false)
  | decU8 (off : Byte) (v : Word) : Writes s (.decU8 off) (s.withRes v)
  | decU16 (off : Byte) (v : Word) : Writes s (.decU16 off) (s.withRes v)
  | decF32 (off : Byte) (v : Word) : Writes s (.decF32 off) (s.withRes v)
  | decTok (off : Byte) (v : Word) : Writes s (.decTok off) (s.withRes v)
  | rspF32 (r : Response) (v : Word) : Writes s .rspF32 ((storeHeader r s).withRes v)
  | rspU16 (r : Response) (v : Word) (b : Bool) : Writes s .rspU16 (((storeHeader r s).withRes v).withNarrow b)

/-- The commands with a check that can end them before they write anything, and the words that are no commands. The others
are NOP, CRC_CLR, CRC_TX, TX_CLR and the RX commands but RX_POP. -/
def hasCheck : Instr → Bool
  | .nop | .crcClr | .crcTx | .txClr | .rxFlush | .rxClose | .rxOpen | .rxTimeout => false
  | _ => true

/-- All the ways a CMD write can end, with the command its word decodes to, if any (60_exceptions.md R231 to R235). -/
inductive CommandEnd (s : State) : Option Instr → State → Prop
  | ok {j : Instr} {u : State} (hw : Writes s j u) : CommandEnd s (some j) (u.endWith .ok)
  | failed {j : Instr} {e : ErrorCode} (hj : hasCheck j = true) (he : e ≠ .ok) : CommandEnd s (some j) (s.endWith e)
  | timedOut : CommandEnd s (some .rxTimeout) ((s.withRx []).endWith .timeout)
  | illegal : CommandEnd s none (s.endWith .illegalCommand)

/-- An outcome that is one of the ends of a command. -/
def EndsAs (s : State) (p : Option Instr) (o : Result) : Prop := ∃ t, o = .next t ∧ CommandEnd s p t

section
variable {s : State} {j : Instr}

theorem EndsAs.of_ok {u : State} (hw : Writes s j u) : EndsAs s (some j) (commandOk u) := ⟨_, rfl, .ok hw⟩

theorem EndsAs.of_raise {e : ErrorCode} (hj : hasCheck j = true) (he : e ≠ .ok) : EndsAs s (some j) (raise e s) :=
  ⟨_, rfl, .failed hj he⟩

/-- A check of the operands before the rest of a command. -/
theorem EndsAs.of_guard {c : Prop} [Decidable c] {e : ErrorCode} {o : Result} (hj : hasCheck j = true) (he : e ≠ .ok)
    (h : EndsAs s (some j) o) : EndsAs s (some j) (if c then raise e s else o) := by
  split
  · exact .of_raise hj he
  · exact h

theorem appendCommand_endsAs (hj : hasCheck j = true) (hw : ∀ bs, Writes s j (s.withTx bs)) (bs : List Byte) :
    EndsAs s (some j) (appendCommand bs s) := by
  rcases appendCommand_cases bs s with ⟨-, o⟩ | ⟨-, o⟩
  · exact ⟨_, o, .ok (hw _)⟩
  · exact ⟨_, o, .failed hj nofun⟩

theorem decodeField_endsAs (hj : hasCheck j = true) (hw : ∀ v, Writes s j (s.withRes v)) (off : Byte) (w : Nat) :
    EndsAs s (some j) (decodeField off w s) := by
  rcases decodeField_cases off w s with ⟨v, -, o⟩ | ⟨-, o⟩
  · exact ⟨_, o, .ok (hw _)⟩
  · exact ⟨_, o, .failed hj nofun⟩

theorem assemble_endsAs (hj : hasCheck j = true) (hw : ∀ bs c, Writes s j ((s.withTx bs).withCrc c)) (body : List Byte) :
    EndsAs s (some j) (assemble body s) := by
  rcases assemble_cases body s with ⟨-, o⟩ | ⟨-, o⟩
  · exact ⟨_, o, .ok (hw _ _)⟩
  · exact ⟨_, o, .failed hj nofun⟩

end

theorem execEncCrc_endsAs (s : State) : EndsAs s (some .encCrc) (execEncCrc s) := by
  rcases txAppend_cases (hexN 4 (crc16 s.tx).toNat) s with ⟨-, append⟩ | ⟨-, append⟩
  · rw [execEncCrc, append]
    exact .of_ok (.encCrc _ _)
  · rw [execEncCrc, append]
    exact .of_raise rfl nofun

theorem execDecTok_endsAs (off : Byte) (s : State) : EndsAs s (some (.decTok off)) (execDecTok off s) := by
  unfold execDecTok
  split
  · exact .of_ok (.decTok off _)
  · exact .of_raise rfl nofun

theorem execRxPop_endsAs (s : State) : EndsAs s (some .rxPop) (execRxPop s) := by
  unfold execRxPop
  split
  · exact .of_ok (.rxPop _ _)
  · exact .of_guard rfl nofun (.of_raise rfl nofun)

/-- The last checks of `rsp_parse()` fail with two codes (44_response.md R191). -/
theorem parseTail_error {lower : Bool} {frame : List Byte} {ctl : Byte} {a q : Nat} {e : ErrorCode}
    (h : parseTail lower frame ctl a q = .error e) : e = .malformedField ∨ e = .checksumMismatch := by
  unfold parseTail at h
  split at h
  · cases h
    exact .inl rfl
  · split at h
    · cases h
      exact .inr rfl
    · split at h
      · cases h
        exact .inl rfl
      · cases h

/-- A parse fails with one of three codes (44_response.md R191). -/
theorem parseResponse_error {p : Params} {frame : List Byte} {e : ErrorCode} (h : parseResponse p frame = .error e) :
    e = .malformedField ∨ e = .unexpectedResponseValue ∨ e = .checksumMismatch := by
  unfold parseResponse at h
  split at h
  · cases h
    exact .inl rfl
  · split at h
    · cases h
      exact .inl rfl
    · split at h
      · split at h
        · cases h
          exact .inr (.inl rfl)
        · exact (parseTail_error h).imp_right .inr
      · cases h
        exact .inl rfl

theorem parseResponse_error_ne_ok {p : Params} {frame : List Byte} {e : ErrorCode}
    (h : parseResponse p frame = .error e) : e ≠ .ok := by
  rcases parseResponse_error h with rfl | rfl | rfl <;> nofun

theorem execRspF32_endsAs (s : State) : EndsAs s (some .rspF32) (execRspF32 s) := by
  rcases execRspF32_cases s with ⟨r, -, o⟩ | ⟨e, parsed, o⟩
  · exact ⟨_, o, .ok (.rspF32 r _)⟩
  · exact ⟨_, o, .failed rfl (parseResponse_error_ne_ok parsed)⟩

theorem execRspU16_endsAs (s : State) : EndsAs s (some .rspU16) (execRspU16 s) := by
  unfold execRspU16
  split
  next parsed => exact .of_raise rfl (parseResponse_error_ne_ok parsed)
  next r _ => exact .of_ok (.rspU16 r _ _)

/-- What each command does when it runs from CMD (45_control.md R211). -/
theorem performCommand_endsAs (i : Instr) (s : State) : EndsAs s (some i) (performCommand i s) := by
  cases i with
  | nop => exact .of_ok .nop
  | crcClr => exact .of_ok (.crcClr _)
  | crcByte => exact .of_guard rfl nofun (.of_ok (.crcByte _))
  | crcTx => exact .of_ok (.crcTx _)
  | crcFrm n => exact .of_guard rfl nofun (.of_ok (.crcFrm n _))
  | txClr => exact .of_ok (.txClr _)
  | txCtl sel => exact appendCommand_endsAs rfl (.txCtl sel) _
  | encU8 => exact .of_guard rfl nofun (appendCommand_endsAs rfl .encU8 _)
  | encU16 => exact .of_guard rfl nofun (appendCommand_endsAs rfl .encU16 _)
  | encF32 => exact appendCommand_endsAs rfl .encF32 _
  | encTok tok => exact appendCommand_endsAs rfl (.encTok tok) _
  | encCrc => exact execEncCrc_endsAs s
  | encTerm => exact appendCommand_endsAs rfl .encTerm _
  | asmVr => exact assemble_endsAs rfl .asmVr _
  | asmVs => exact assemble_endsAs rfl .asmVs _
  | rxPop => exact execRxPop_endsAs s
  | rxFlush => exact .of_ok .rxFlush
  | rxClose => exact .of_ok .rxClose
  | rxOpen => exact .of_ok .rxOpen
  | rxTimeout => exact ⟨_, rfl, .timedOut⟩
  | decU8 off => exact decodeField_endsAs rfl (.decU8 off) off _
  | decU16 off => exact decodeField_endsAs rfl (.decU16 off) off _
  | decF32 off => exact decodeField_endsAs rfl (.decF32 off) off _
  | decTok off => exact execDecTok_endsAs off s
  | rspF32 => exact execRspF32_endsAs s
  | rspU16 => exact execRspU16_endsAs s
  | busCmdWrite _ | busOperandWrite _ _ | busStatusWrite _ | busRead _ | busRxdataWrite _ => exact .of_raise rfl nofun

theorem execBusCmdWrite_endsAs (w : Word) (s : State) : EndsAs s (performed (.busCmdWrite w)) (execBusCmdWrite w s) := by
  cases decoded : decodeCommand w with
  | error _ =>
    simp only [performed, execBusCmdWrite, decoded]
    exact ⟨_, rfl, .illegal⟩
  | ok i =>
    simp only [performed, execBusCmdWrite, decoded]
    exact performCommand_endsAs i s

theorem EndsAs.commandEnd {s t : State} {p : Option Instr} {o : Result} (h : EndsAs s p o) (ho : o = .next t) :
    CommandEnd s p t := by
  obtain ⟨u, rfl, hu⟩ := h
  cases ho
  exact hu

/-- A command and a CMD write end as commands do. -/
theorem commandEnd_of_exec {i : Instr} {s t : State} (hi : endsACommand i = true) (h : exec i s = .next t) :
    CommandEnd s (performed i) t := by
  cases i with
  | busCmdWrite w => exact (execBusCmdWrite_endsAs w s).commandEnd h
  | busOperandWrite _ _ | busStatusWrite _ | busRead _ | busRxdataWrite _ => cases hi
  | _ => exact (performCommand_endsAs _ s).commandEnd h

/-! ### What a bus operation writes -/

/-- All that a bus operation other than a CMD write can do (45_control.md R212 to R215). -/
inductive BusEffect (s : State) : Instr → State → Prop
  | operandWrite (r : OperandReg) (v : Word) : BusEffect s (.busOperandWrite r v) (s.withOperand r v)
  | statusWrite (v : Word) : BusEffect s (.busStatusWrite v) (s.withErrs (s.errs && !v.getLsbD 4))
  | read (off : Nat) (v : Word) : BusEffect s (.busRead off) (s.withReadData v)
  | pushed (w : Word) (room : s.rx.length < s.params.rxCap) (bs : List Byte) :
      BusEffect s (.busRxdataWrite w) (s.withRx bs)
  | dropped (w : Word) (full : s.params.rxCap ≤ s.rx.length) : BusEffect s (.busRxdataWrite w) (s.withRxovf true)

/-- A STATUS write keeps ERRS unless bit 4 is set (45_control.md R213). -/
theorem execBusStatusWrite_eq (v : Word) (s : State) :
    execBusStatusWrite v s = .next (s.withErrs (s.errs && !v.getLsbD 4)) := by
  unfold execBusStatusWrite
  cases v.getLsbD 4 with
  | true => rw [if_pos rfl, Bool.not_true, Bool.and_false]
  | false =>
    rw [if_neg nofun, Bool.not_false, Bool.and_true]
    rfl

/-- A read that completes changes only what the host got (45_control.md R214). -/
theorem execBusRead_eq_next {off : Nat} {s t : State} (h : execBusRead off s = .next t) : ∃ v, t = s.withReadData v := by
  unfold execBusRead at h
  split at h
  · exact absurd h (rejectAccess_not_next _ t)
  · cases h
    exact ⟨_, rfl⟩

theorem busEffect_of_exec {i : Instr} {s t : State} (hi : endsACommand i = false) (h : exec i s = .next t) :
    BusEffect s i t := by
  cases i with
  | busOperandWrite r v =>
    cases h
    exact .operandWrite r v
  | busStatusWrite v =>
    cases (execBusStatusWrite_eq v s).symm.trans h
    exact .statusWrite v
  | busRead off =>
    obtain ⟨v, rfl⟩ := execBusRead_eq_next h
    exact .read off v
  | busRxdataWrite w =>
    cases h
    rcases pushByte_cases (w.extractLsb' 0 8) s with ⟨room, push⟩ | ⟨full, push⟩
    · rw [push]
      exact .pushed w room _
    · rw [push]
      exact .dropped w full
  | _ => cases hi

/-- The two kinds of instruction. -/
theorem exec_eq_next_cases {i : Instr} {s t : State} (h : exec i s = .next t) :
    (endsACommand i = true ∧ CommandEnd s (performed i) t) ∨ (endsACommand i = false ∧ BusEffect s i t) := by
  cases hi : endsACommand i with
  | true => exact .inl ⟨rfl, commandEnd_of_exec hi h⟩
  | false => exact .inr ⟨rfl, busEffect_of_exec hi h⟩

/-! ### The host's side (10_state.md R21 to R26) -/

/-- What no command writes: the operand registers and the model's own fields. -/
def State.hostSide (s : State) : (Params × List HostEvent) × Option Word × Word × Word × Word × Word × Word × Word :=
  ((s.params, s.pending), s.readData, s.opa, s.addr, s.seq, s.param, s.inst, s.value)

theorem State.hostSide_eq_iff (s t : State) : t.hostSide = s.hostSide ↔
    (t.params = s.params ∧ t.pending = s.pending) ∧ t.readData = s.readData ∧
      t.opa = s.opa ∧ t.addr = s.addr ∧ t.seq = s.seq ∧ t.param = s.param ∧ t.inst = s.inst ∧ t.value = s.value := by
  simp only [State.hostSide, Prod.mk.injEq]

theorem Writes.hostSide_eq {s u : State} {j : Instr} (h : Writes s j u) : u.hostSide = s.hostSide := by
  cases h <;> rfl

theorem CommandEnd.hostSide_eq {s t : State} {p : Option Instr} (h : CommandEnd s p t) : t.hostSide = s.hostSide := by
  cases h with
  | ok hw => exact hw.hostSide_eq
  | failed | timedOut | illegal => rfl

/-- Settles O17: a command keeps the host's side, and each bus operation writes its own part of it only. -/
theorem operandRegistersWrittenOnlyByTheHost : Obligations.OperandRegistersWrittenOnlyByTheHost := by
  intro i s t h
  rcases exec_eq_next_cases h with ⟨-, hend⟩ | ⟨-, hbus⟩
  · obtain ⟨hown, hread, hoperands⟩ := (State.hostSide_eq_iff s t).1 hend.hostSide_eq
    exact ⟨hown, fun _ => hread, fun _ => hoperands⟩
  · cases hbus with
    | operandWrite r v => exact ⟨by simp, fun _ => by simp, fun no => absurd rfl (no r v)⟩
    | read off v => exact ⟨⟨rfl, rfl⟩, fun no => absurd rfl (no off), fun _ => ⟨rfl, rfl, rfl, rfl, rfl, rfl⟩⟩
    | statusWrite | pushed | dropped => exact ⟨⟨rfl, rfl⟩, fun _ => rfl, fun _ => ⟨rfl, rfl, rfl, rfl, rfl, rfl⟩⟩

/-! ### Fields that only a successful command writes -/

/-- A part of the state that no bus operation writes, nor the end of a command, nor RX_TIMEOUT. -/
structure WrittenByBodies {α : Type} (f : State → α) : Prop where
  endWith : ∀ s e, f (s.endWith e) = f s
  withRx : ∀ s bs, f (s.withRx bs) = f s
  withRxovf : ∀ s b, f (s.withRxovf b) = f s
  withErrs : ∀ s b, f (s.withErrs b) = f s
  withReadData : ∀ s v, f (s.withReadData v) = f s
  withOperand : ∀ s r v, f (s.withOperand r v) = f s

/-- When such a part changes, a command wrote it and succeeded. -/
theorem WrittenByBodies.writes_of_changed {α : Type} {f : State → α} (hf : WrittenByBodies f) {i : Instr} {s t : State}
    (h : exec i s = .next t) (changed : f t ≠ f s) :
    ∃ j u, performed i = some j ∧ Writes s j u ∧ t.err = 0 ∧ f u ≠ f s := by
  rcases exec_eq_next_cases h with ⟨-, hend⟩ | ⟨-, hbus⟩
  · generalize performed i = p at hend
    cases hend with
    | @ok j u hw => exact ⟨j, u, rfl, hw, rfl, hf.endWith u .ok ▸ changed⟩
    | failed | illegal => exact absurd (hf.endWith s _) changed
    | timedOut => exact absurd ((hf.endWith _ _).trans (hf.withRx s _)) changed
  · cases hbus with
    | operandWrite r v => exact absurd (hf.withOperand s r v) changed
    | statusWrite v => exact absurd (hf.withErrs s _) changed
    | read off v => exact absurd (hf.withReadData s v) changed
    | pushed w room bs => exact absurd (hf.withRx s bs) changed
    | dropped w full => exact absurd (hf.withRxovf s true) changed

/-- RCTL, RADDR and RSEQ, which are written together (44_response.md R195, R196). -/
def State.header (s : State) : Byte × Byte × Half := (s.rctl, s.raddr, s.rseq)

theorem State.header_ne_iff (s t : State) :
    t.header ≠ s.header ↔ t.rctl ≠ s.rctl ∨ t.raddr ≠ s.raddr ∨ t.rseq ≠ s.rseq := by
  simp only [State.header, ne_eq, Prod.mk.injEq, not_and_or]

theorem res_writtenByBodies : WrittenByBodies State.res :=
  ⟨State.endWith_res, State.withRx_res, State.withRxovf_res, State.withErrs_res, State.withReadData_res,
    State.withOperand_res⟩

theorem header_writtenByBodies : WrittenByBodies State.header where
  endWith _ _ := rfl
  withRx _ _ := rfl
  withRxovf _ _ := rfl
  withErrs _ _ := rfl
  withReadData _ _ := rfl
  withOperand _ r _ := by cases r <;> rfl

theorem crc_writtenByBodies : WrittenByBodies State.crc :=
  ⟨State.endWith_crc, State.withRx_crc, State.withRxovf_crc, State.withErrs_crc, State.withReadData_crc,
    State.withOperand_crc⟩

theorem tx_writtenByBodies : WrittenByBodies State.tx :=
  ⟨State.endWith_tx, State.withRx_tx, State.withRxovf_tx, State.withErrs_tx, State.withReadData_tx,
    State.withOperand_tx⟩

theorem frame_writtenByBodies : WrittenByBodies State.frame :=
  ⟨State.endWith_frame, State.withRx_frame, State.withRxovf_frame, State.withErrs_frame, State.withReadData_frame,
    State.withOperand_frame⟩

theorem narrow_writtenByBodies : WrittenByBodies State.narrow :=
  ⟨State.endWith_narrow, State.withRx_narrow, State.withRxovf_narrow, State.withErrs_narrow, State.withReadData_narrow,
    State.withOperand_narrow⟩

/-- Settles O18: the command that changed the register succeeded, and is one of those whose `Writes` names it. -/
theorem resultRegisterWriters : Obligations.ResultRegisterWriters := by
  intro i s t h
  refine ⟨fun changed => ?res, fun changed => ?header, fun changed => ?crc⟩
  case res =>
    obtain ⟨j, u, hp, hw, herr, hne⟩ := res_writtenByBodies.writes_of_changed h changed
    rw [hp]
    refine ⟨herr, ?_⟩
    cases hw with
    | decU8 off | decU16 off | decF32 off | decTok off => exact .inl ⟨off, by simp⟩
    | rspF32 | rspU16 => simp
    | _ => exact absurd rfl hne
  case header =>
    obtain ⟨j, u, hp, hw, herr, hne⟩ :=
      header_writtenByBodies.writes_of_changed h ((State.header_ne_iff s t).2 changed)
    rw [hp]
    refine ⟨herr, ?_⟩
    cases hw with
    | rspF32 | rspU16 => simp
    | _ => exact absurd rfl hne
  case crc =>
    obtain ⟨j, u, hp, hw, herr, hne⟩ := crc_writtenByBodies.writes_of_changed h changed
    rw [hp]
    refine ⟨herr, ?_⟩
    cases hw with
    | crcFrm n => exact .inr ⟨n, rfl⟩
    | crcClr | crcByte | crcTx | encCrc | asmVr | asmVs | rspF32 | rspU16 => simp
    | _ => exact absurd rfl hne

/-! ### TX, RX and FRAME (10_state.md R32 to R34) -/

theorem Writes.rx_writers {s u : State} {j : Instr} (h : Writes s j u) (changed : u.rx ≠ s.rx) :
    j = .rxPop ∨ j = .rxFlush := by
  cases h with
  | rxPop => exact .inl rfl
  | rxFlush => exact .inr rfl
  | _ => exact absurd rfl changed

theorem CommandEnd.rx_writers {s t : State} {p : Option Instr} (h : CommandEnd s p t) (changed : t.rx ≠ s.rx) :
    p ∈ [some Instr.rxPop, some .rxFlush, some .rxTimeout] := by
  cases h with
  | ok hw => rcases hw.rx_writers changed with rfl | rfl <;> simp
  | timedOut => simp
  | failed | illegal => exact absurd rfl changed

theorem BusEffect.rx_writers {s t : State} {i : Instr} (h : BusEffect s i t) (changed : t.rx ≠ s.rx) :
    ∃ w, i = .busRxdataWrite w := by
  cases h with
  | pushed w | dropped w => exact ⟨w, rfl⟩
  | operandWrite r v => exact absurd (State.withOperand_rx s r v) changed
  | statusWrite | read => exact absurd rfl changed

/-- Settles O19: TX and FRAME as the result registers; for RX also RX_TIMEOUT and the push. -/
theorem bufferWriters : Obligations.BufferWriters := by
  intro i s t h
  refine ⟨fun changed => ?tx, fun changed => ?rx, fun changed => ?frame⟩
  case tx =>
    obtain ⟨j, u, hp, hw, -, hne⟩ := tx_writtenByBodies.writes_of_changed h changed
    rw [hp]
    cases hw with
    | txCtl sel => exact .inr (.inl ⟨sel, rfl⟩)
    | encTok tok => exact .inr (.inr ⟨tok, rfl⟩)
    | txClr | encU8 | encU16 | encF32 | encCrc | encTerm | asmVr | asmVs => simp
    | _ => exact absurd rfl hne
  case rx =>
    rcases exec_eq_next_cases h with ⟨-, hend⟩ | ⟨-, hbus⟩
    · exact .inl (hend.rx_writers changed)
    · exact .inr (hbus.rx_writers changed)
  case frame =>
    obtain ⟨j, u, hp, hw, herr, hne⟩ := frame_writtenByBodies.writes_of_changed h changed
    rw [hp]
    refine ⟨?_, herr⟩
    cases hw with
    | rxPop => rfl
    | _ => exact absurd rfl hne

/-! ### ERR and ERRS (10_state.md R39, R40) -/

/-- The codes that set ERRS are 1..9 (60_exceptions.md R232). -/
theorem isErrorCode_errorBits (e : ErrorCode) : isErrorCode (errorBits e) = setsErrs e := by
  rw [Bool.eq_iff_iff, setsErrs_iff, isErrorCode, Bool.and_eq_true, decide_eq_true_eq, decide_eq_true_eq]

/-- Only success has code 0 (60_exceptions.md R230). -/
theorem errorBits_eq_zero_iff (e : ErrorCode) : errorBits e = 0 ↔ e = .ok :=
  ⟨fun h => errorBits_injective (f := .ok) h, fun h => h ▸ rfl⟩

theorem Writes.errs_eq {s u : State} {j : Instr} (h : Writes s j u) : u.errs = s.errs := by cases h <;> rfl

/-- The code is written last, and the body before it leaves ERRS alone (60_exceptions.md R231, R232). -/
theorem CommandEnd.eq_endWith {s t : State} {p : Option Instr} (h : CommandEnd s p t) :
    ∃ u e, t = State.endWith u e ∧ u.errs = s.errs := by
  cases h with
  | ok hw => exact ⟨_, _, rfl, hw.errs_eq⟩
  | failed | timedOut | illegal => exact ⟨_, _, rfl, rfl⟩

/-- What the step of a reset event gives (70_reset_and_hazards.md R260; log 8). -/
theorem step_of_reset {s : State} {rest : List HostEvent} (h : s.pending = .reset :: rest) :
    step s = .next (resetBlock (s.withPending rest)) := by
  simp only [step, fetch, h]

/-- Settles O12: a command writes its code last; of the other bus operations only a STATUS write touches ERRS. -/
theorem errsIsStickyAndErrIsTheCommands : Obligations.ErrsIsStickyAndErrIsTheCommands := by
  refine ⟨fun i s t hi h => ?command, fun v s t h => ?status, fun i s t hi h => ?bus, fun s t rest hp h => ?reset⟩
  case command =>
    obtain ⟨u, e, rfl, herrs⟩ := (commandEnd_of_exec hi h).eq_endWith
    rw [State.endWith_errs, State.endWith_err, isErrorCode_errorBits, herrs, Bool.or_comm]
    exact ⟨rfl, errorBits_le e⟩
  case status =>
    cases (execBusStatusWrite_eq v s).symm.trans h
    rfl
  case bus =>
    cases busEffect_of_exec hi h with
    | operandWrite r v => simp
    | statusWrite v => exact ⟨rfl, fun no => absurd rfl (no v)⟩
    | read | pushed | dropped => exact ⟨rfl, fun _ => rfl⟩
  case reset =>
    cases (step_of_reset hp).symm.trans h
    rfl

/-! ### RXOVF, CLOSED, FVALID and NARROW (10_state.md R42 to R45) -/

theorem ne_of_hasCheck {j k : Instr} (hj : hasCheck j = true) (hk : hasCheck k = false) : j ≠ k := by
  rintro rfl
  exact absurd (hj.symm.trans hk) nofun

theorem Writes.rxovf_iff {s u : State} {j : Instr} (h : Writes s j u) :
    u.rxovf = true ↔ s.rxovf = true ∧ j ≠ .rxFlush := by
  cases h with
  | rxFlush => simp
  | _ => exact (and_iff_left nofun).symm

theorem Writes.closed_iff {s u : State} {j : Instr} (h : Writes s j u) :
    u.closed = true ↔ j = .rxClose ∨ (s.closed = true ∧ j ≠ .rxOpen) := by
  cases h with
  | rxClose | rxOpen => simp
  | _ => exact ((or_iff_right nofun).trans (and_iff_left nofun)).symm

theorem Writes.fvalid_iff {s u : State} {j : Instr} (h : Writes s j u) :
    u.fvalid = true ↔ j = .rxPop ∨ s.fvalid = true := by
  cases h with
  | rxPop => simp
  | _ => exact (or_iff_right nofun).symm

theorem CommandEnd.rxovf_iff {s t : State} {p : Option Instr} (h : CommandEnd s p t) :
    t.rxovf = true ↔ s.rxovf = true ∧ p ≠ some .rxFlush := by
  cases h with
  | ok hw => simpa using hw.rxovf_iff
  | failed hj he => simp [ne_of_hasCheck hj (k := .rxFlush) rfl]
  | timedOut | illegal => simp

theorem CommandEnd.closed_iff {s t : State} {p : Option Instr} (h : CommandEnd s p t) :
    t.closed = true ↔ p = some .rxClose ∨ (s.closed = true ∧ p ≠ some .rxOpen) := by
  cases h with
  | ok hw => simpa using hw.closed_iff
  | failed hj he => simp [ne_of_hasCheck hj (k := .rxClose) rfl, ne_of_hasCheck hj (k := .rxOpen) rfl]
  | timedOut | illegal => simp

theorem CommandEnd.fvalid_iff {s t : State} {p : Option Instr} (h : CommandEnd s p t) :
    t.fvalid = true ↔ (p = some .rxPop ∧ t.err = 0) ∨ s.fvalid = true := by
  cases h with
  | ok hw =>
    rw [State.endWith_err, errorBits_eq_zero_iff]
    simpa using hw.fvalid_iff
  | failed hj he =>
    rw [State.endWith_err, errorBits_eq_zero_iff]
    simp [he]
  | timedOut | illegal => simp

theorem BusEffect.rxovf_iff {s t : State} {i : Instr} (h : BusEffect s i t) :
    t.rxovf = true ↔ (∃ w, i = .busRxdataWrite w ∧ s.params.rxCap ≤ s.rx.length) ∨ s.rxovf = true := by
  cases h with
  | pushed w room bs => simp [Nat.not_le_of_lt room]
  | dropped w full => simp [full]
  | operandWrite | statusWrite | read => simp

theorem BusEffect.closed_eq {s t : State} {i : Instr} (h : BusEffect s i t) : t.closed = s.closed := by
  cases h with
  | operandWrite r v => exact State.withOperand_closed s r v
  | statusWrite | read | pushed | dropped => rfl

theorem BusEffect.fvalid_eq {s t : State} {i : Instr} (h : BusEffect s i t) : t.fvalid = s.fvalid := by
  cases h with
  | operandWrite r v => exact State.withOperand_fvalid s r v
  | statusWrite | read | pushed | dropped => rfl

/-- A bus operation other than a CMD write performs no command. -/
theorem BusEffect.performed_ne {s t : State} {i : Instr} (h : BusEffect s i t) {j : Instr} (hj : isCommand j = true) :
    performed i ≠ some j := by
  cases h <;> (rintro ⟨⟩; cases hj)

/-- Settles O20: what every command and every bus operation leaves in each bit, and the reset value of all four. -/
theorem statusBitWriters : Obligations.StatusBitWriters := by
  refine ⟨fun i s t h => ⟨?rxovf, ?closed, ?fvalid, fun changed => ?narrow⟩, fun s t rest hp h => ?reset⟩
  case rxovf =>
    rcases exec_eq_next_cases h with ⟨hi, hend⟩ | ⟨-, hbus⟩
    · have noPush : ¬ ∃ w, i = .busRxdataWrite w ∧ s.params.rxCap ≤ s.rx.length := by
        rintro ⟨w, rfl, -⟩
        cases hi
      rw [hend.rxovf_iff, or_iff_right noPush]
    · rw [hbus.rxovf_iff, and_iff_left (hbus.performed_ne rfl)]
  case closed =>
    rcases exec_eq_next_cases h with ⟨-, hend⟩ | ⟨-, hbus⟩
    · exact hend.closed_iff
    · rw [hbus.closed_eq, or_iff_right (hbus.performed_ne rfl), and_iff_left (hbus.performed_ne rfl)]
  case fvalid =>
    rcases exec_eq_next_cases h with ⟨-, hend⟩ | ⟨-, hbus⟩
    · exact hend.fvalid_iff
    · rw [hbus.fvalid_eq, or_iff_right fun ⟨popped, _⟩ => hbus.performed_ne rfl popped]
  case narrow =>
    obtain ⟨j, u, hp, hw, herr, hne⟩ := narrow_writtenByBodies.writes_of_changed h changed
    rw [hp]
    refine ⟨?_, herr⟩
    cases hw with
    | rspU16 => rfl
    | _ => exact absurd rfl hne
  case reset =>
    cases (step_of_reset hp).symm.trans h
    exact ⟨rfl, rfl, rfl, rfl⟩

end Sys2Proof.Machine
end

section
/-! PROOF. The STATUS and CFG words, bit by bit (10_state.md R38, R41, R46, R47). -/

namespace Sys2Proof.Machine

/-- A read of an aligned offset of the register space completes (20_memory.md R50, R51; 45_control.md R214). -/
theorem exec_busRead {off : Nat} (inside : off < 0x1000) (aligned : off % 4 = 0) (s : State) :
    exec (.busRead off) s = .next (s.withReadData (readTarget s (targetAt off))) := by
  have ok : checkAccess 0 off 4 = .ok off :=
    (checkAccess_ok_iff 0 off 4 off).2 ⟨Nat.zero_le _, by simpa [spaceSize] using inside, rfl, rfl, aligned⟩
  simp only [exec, execBusRead, ok]

theorem getLsbD_bitAt (n : Nat) (b : Bool) {k : Nat} (hk : k < 32) :
    (bitAt n b).getLsbD k = (decide (k = n) && b) := by
  cases b with
  | false => simp [bitAt]
  | true =>
    have flag : bitAt n true = BitVec.twoPow 32 n := by rw [bitAt, if_pos rfl, BitVec.twoPow]; rfl
    rw [flag, BitVec.getLsbD_twoPow, Bool.and_true]
    by_cases h : n = k
    · simp [h, hk]
    · simp [h, Ne.symm h]

/-- Every bit of STATUS (10_state.md R38). -/
theorem getLsbD_statusWord (s : State) {k : Nat} (hk : k < 32) :
    (statusWord s).getLsbD k = (s.err.getLsbD k || (decide (k = 4) && s.errs) || (decide (k = 8) && favail s)
      || (decide (k = 9) && s.rxovf) || (decide (k = 10) && s.closed) || (decide (k = 11) && s.fvalid)
      || (decide (k = 12) && s.narrow) || (decide (k = 13) && rxfull s)) := by
  simp only [statusWord, BitVec.getLsbD_or, BitVec.getLsbD_setWidth, getLsbD_bitAt, hk, decide_true, Bool.true_and]

/-- The low four bits of STATUS are ERR (R39). -/
theorem extractLsb'_statusWord_err (s : State) : (statusWord s).extractLsb' 0 4 = s.err := by
  apply BitVec.eq_of_getLsbD_eq
  intro i hi
  have noFlag : ∀ n, 4 ≤ n → decide (i = n) = false := fun n hn => decide_eq_false (by omega)
  simp [hi, getLsbD_statusWord s (k := i) (by omega), noFlag]

/-- The bits of STATUS that R38 names no field for are 0. -/
theorem extractLsb'_statusWord_zero (s : State) {a n : Nat} (h : (a = 5 ∧ n = 3) ∨ (a = 14 ∧ n = 18)) :
    (statusWord s).extractLsb' a n = 0 := by
  apply BitVec.eq_of_getLsbD_eq
  intro i hi
  have unused : (5 ≤ a + i ∧ a + i < 8) ∨ (14 ≤ a + i ∧ a + i < 32) := by omega
  have noErr : s.err.getLsbD (a + i) = false := BitVec.getLsbD_of_ge _ _ (by omega)
  have noFlag : ∀ m ∈ [4, 8, 9, 10, 11, 12, 13], decide (a + i = m) = false := by
    simp only [List.forall_mem_cons]
    refine ⟨?_, ?_, ?_, ?_, ?_, ?_, ?_, nofun⟩ <;> exact decide_eq_false (by omega)
  simp only [List.forall_mem_cons] at noFlag
  rw [BitVec.getLsbD_extractLsb', getLsbD_statusWord s (by omega)]
  simp [noErr, noFlag]

/-- FAVAIL says that some byte of RX is the terminator (R41). -/
theorem favail_eq (s : State) : favail s = decide (∃ i, i < s.rx.length ∧ s.rx.getD i 0 = 0x0D) := by
  rw [Bool.eq_iff_iff, decide_eq_true_iff, favail, List.contains_iff_mem, List.mem_iff_getElem]
  constructor
  · rintro ⟨i, hi, hcr⟩
    exact ⟨i, hi, by rw [List.getD_eq_getElem _ _ hi]; exact hcr⟩
  · rintro ⟨i, hi, hcr⟩
    exact ⟨i, hi, by rw [← List.getD_eq_getElem _ 0 hi]; exact hcr⟩

/-- Settles O55: the read returns `statusWord`, whose bits are those of `getLsbD_statusWord`. -/
theorem statusLayout : Obligations.StatusLayout := by
  intro s
  refine ⟨statusWord s, exec_busRead (by decide) (by decide) s, extractLsb'_statusWord_err s, ?errs,
    extractLsb'_statusWord_zero s (.inl ⟨rfl, rfl⟩), ?favail, ?rxovf, ?closed, ?fvalid, ?narrow, ?rxfull,
    extractLsb'_statusWord_zero s (.inr ⟨rfl, rfl⟩)⟩
  case favail =>
    rw [getLsbD_statusWord s (by decide), ← favail_eq]
    simp
  case rxfull =>
    rw [getLsbD_statusWord s (by decide), rxfull, beq_eq_decide]
    simp
  case errs | rxovf | closed | fvalid | narrow =>
    rw [getLsbD_statusWord s (by decide)]
    simp

/-- Every bit of CFG (10_state.md R47). -/
theorem getLsbD_cfgWord (p : Params) {k : Nat} (hk : k < 32) :
    (cfgWord p).getLsbD k = ((decide (k = 0) && p.hexLowerOk) || (decide (k = 1) && p.strictControl)
      || (decide (8 ≤ k) && p.txCap.testBit (k - 8)) || (decide (16 ≤ k) && p.rxCap.testBit (k - 16))) := by
  have h8 : k - 8 < 32 := by omega
  have h16 : k - 16 < 32 := by omega
  simp only [cfgWord, BitVec.getLsbD_or, getLsbD_bitAt _ _ hk, BitVec.getLsbD_shiftLeft, BitVec.getLsbD_ofNat, hk, h8,
    h16, decide_true, Bool.true_and, ← Nat.not_le (b := k), decide_not, Bool.not_not]

theorem extractLsb'_cfgWord_zero (p : Params) : (cfgWord p).extractLsb' 2 6 = 0 := by
  apply BitVec.eq_of_getLsbD_eq
  intro i hi
  have below8 : ¬ 8 ≤ 2 + i := by omega
  have below16 : ¬ 16 ≤ 2 + i := by omega
  have notBit1 : ¬ 2 + i = 1 := by omega
  rw [BitVec.getLsbD_extractLsb', getLsbD_cfgWord p (by omega)]
  simp [below8, below16, notBit1]

theorem extractLsb'_cfgWord_txCap (p : Params) : (cfgWord p).extractLsb' 8 8 = BitVec.ofNat 8 p.txCap := by
  apply BitVec.eq_of_getLsbD_eq
  intro i hi
  have below16 : ¬ 16 ≤ 8 + i := by omega
  have notBit1 : ¬ 8 + i = 1 := by omega
  rw [BitVec.getLsbD_extractLsb', getLsbD_cfgWord p (by omega), BitVec.getLsbD_ofNat]
  simp [below16, notBit1, hi]

/-- RX_CAP stands above TX_CAP's field when TX_CAP fits its 8 bits (00_scope.md R7). -/
theorem extractLsb'_cfgWord_rxCap (p : Params) (fits : p.txCap < 2 ^ 8) :
    (cfgWord p).extractLsb' 16 16 = BitVec.ofNat 16 p.rxCap := by
  apply BitVec.eq_of_getLsbD_eq
  intro i hi
  have noTx : p.txCap.testBit (16 + i - 8) = false :=
    Nat.testBit_lt_two_pow (fits.trans_le (Nat.pow_le_pow_right (by decide) (by omega)))
  have notBit1 : ¬ 16 + i = 1 := by omega
  rw [BitVec.getLsbD_extractLsb', getLsbD_cfgWord p (by omega), BitVec.getLsbD_ofNat]
  simp [noTx, notBit1, hi]

/-- Settles O56: the fields of `cfgWord` do not overlap when the parameters are legal. -/
theorem cfgReportsTheParameters : Obligations.CfgReportsTheParameters := by
  refine ⟨fun s legal => ?fields, fun s hp => ?default⟩
  case fields =>
    obtain ⟨⟨-, hrx⟩, -, htx⟩ := (params_legal_iff _).1 legal
    refine ⟨cfgWord s.params, exec_busRead (by decide) (by decide) s, ?hexLowerOk, ?strictControl,
      extractLsb'_cfgWord_zero _, ?txCap, ?rxCap⟩
    case hexLowerOk | strictControl =>
      rw [getLsbD_cfgWord _ (by decide)]
      simp
    case txCap =>
      rw [extractLsb'_cfgWord_txCap, BitVec.toNat_ofNat, Nat.mod_eq_of_lt (by omega)]
    case rxCap =>
      rw [extractLsb'_cfgWord_rxCap _ (by omega), BitVec.toNat_ofNat, Nat.mod_eq_of_lt (by omega)]
  case default =>
    have cfg : cfgWord Params.default = 0x01004003 := by decide
    rw [exec_busRead (by decide) (by decide) s, ← cfg, ← hp]
    rfl

end Sys2Proof.Machine
end

section
/-! PROOF. Accesses of the register space: what has a step, what a read returns, which writes do nothing (20_memory.md R50
to R58). -/

namespace Sys2Proof.Machine

/-! ### Which accesses have a step (20_memory.md R50, R51) -/

theorem checkAccess_base_add (base : Nat) {off : Nat} (inside : off < 0x1000) (aligned : off % 4 = 0) :
    checkAccess base (base + off) 4 = .ok off :=
  (checkAccess_ok_iff base (base + off) 4 off).2
    ⟨Nat.le_add_right base off, Nat.add_lt_add_left inside base, rfl, (Nat.add_sub_cancel_left base off).symm, aligned⟩

theorem checkAccess_eq_outside {base addr : Nat} (outside : ¬ (base ≤ addr ∧ addr < base + 0x1000)) (width : Nat) :
    checkAccess base addr width = .error .outside :=
  if_pos (by unfold spaceSize; omega)

theorem checkAccess_of_inside {base addr : Nat} (inside : base ≤ addr ∧ addr < base + 0x1000) (width : Nat) :
    checkAccess base addr width =
      if width ≠ 4 then .error .badWidth
      else if (addr - base) % 4 ≠ 0 then .error .unaligned
      else .ok (addr - base) :=
  if_neg (by unfold spaceSize; omega)

theorem checkAccess_eq_badWidth {base addr width : Nat} (inside : base ≤ addr ∧ addr < base + 0x1000)
    (wide : width ≠ 4) : checkAccess base addr width = .error .badWidth := by
  rw [checkAccess_of_inside inside, if_pos wide]

theorem checkAccess_eq_unaligned {base addr : Nat} (inside : base ≤ addr ∧ addr < base + 0x1000)
    (unaligned : (addr - base) % 4 ≠ 0) : checkAccess base addr 4 = .error .unaligned := by
  rw [checkAccess_of_inside inside, if_neg (not_not_intro rfl), if_pos unaligned]

theorem decodeAccess_read (base : Nat) {off : Nat} (inside : off < 0x1000) (aligned : off % 4 = 0) :
    decodeAccess base (.read (base + off) 4) = .ok (.run (.busRead off)) := by
  simp only [decodeAccess, checkAccess_base_add base inside aligned]

theorem decodeAccess_write (base : Nat) {off : Nat} (inside : off < 0x1000) (aligned : off % 4 = 0) (v : Word) :
    decodeAccess base (.write (base + off) 4 v) = .ok (writeStep (targetAt off) v) := by
  simp only [decodeAccess, checkAccess_base_add base inside aligned]

/-- Reads and writes are rejected for the same reasons. -/
theorem decodeAccess_eq_error {base addr width : Nat} {a : Access} {e : AccessReject}
    (ha : a = .read addr width ∨ ∃ v, a = .write addr width v) (h : checkAccess base addr width = .error e) :
    decodeAccess base a = .error e := by
  rcases ha with rfl | ⟨v, rfl⟩ <;> simp only [decodeAccess, h]

/-! ### The step of an access (45_control.md R216) -/

theorem step_of_rejected {s : State} {a : Access} {rest : List HostEvent} {e : AccessReject}
    (hp : s.pending = .access a :: rest) (h : decodeAccess s.params.base a = .error e) : step s = rejectAccess e := by
  simp only [step, fetch, hp, fetchAccess, State.withPending_params, h]

theorem step_of_noEffect {s : State} {a : Access} {rest : List HostEvent}
    (hp : s.pending = .access a :: rest) (h : decodeAccess s.params.base a = .ok .noEffect) :
    step s = .next (s.withPending rest) := by
  simp only [step, fetch, hp, fetchAccess, State.withPending_params, h]

/-! ### A command's word decodes to it (30_encoding.md R70 to R74) -/

theorem getLsbD_commandWord (op f : Byte) {k : Nat} (hk : k < 32) :
    (commandWord op f).getLsbD k = (op.getLsbD k || (decide (8 ≤ k) && f.getLsbD (k - 8))) := by
  have h8 : k - 8 < 32 := by omega
  simp only [commandWord, BitVec.getLsbD_or, BitVec.getLsbD_shiftLeft, BitVec.getLsbD_setWidth, hk, h8, decide_true,
    Bool.true_and, ← Nat.not_le (b := k), decide_not, Bool.not_not]

@[simp] theorem fieldOp_commandWord (op f : Byte) : fieldOp (commandWord op f) = op := by
  apply BitVec.eq_of_getLsbD_eq
  intro i hi
  have below8 : ¬ 8 ≤ i := by omega
  rw [fieldOp, BitVec.getLsbD_extractLsb', getLsbD_commandWord op f (by omega)]
  simp [hi, below8]

@[simp] theorem fieldF_commandWord (op f : Byte) : fieldF (commandWord op f) = f := by
  apply BitVec.eq_of_getLsbD_eq
  intro i hi
  rw [fieldF, BitVec.getLsbD_extractLsb', getLsbD_commandWord op f (by omega)]
  simp [hi]

@[simp] theorem fieldZ_commandWord (op f : Byte) : fieldZ (commandWord op f) = 0 := Laws.commandWord_upper op f

theorem decodeCommand_commandWord (op f : Byte) : decodeCommand (commandWord op f) = decodeOp op f := by
  simp [decodeCommand]

/-- The opcode and field of every command, which the decoder reads back (R73). -/
theorem exists_opcode_of_isCommand {i : Instr} (h : isCommand i = true) :
    ∃ op f, encodeCommand i = some (commandWord op f) ∧ decodeOp op f = .ok i := by
  cases i with
  | busCmdWrite _ | busOperandWrite _ _ | busStatusWrite _ | busRead _ | busRxdataWrite _ => cases h
  | txCtl sel => cases sel <;> exact ⟨_, _, rfl, rfl⟩
  | encTok tok => cases tok <;> exact ⟨_, _, rfl, rfl⟩
  | _ => exact ⟨_, _, rfl, rfl⟩

theorem exists_word_of_isCommand {i : Instr} (h : isCommand i = true) :
    ∃ w, encodeCommand i = some w ∧ decodeCommand w = .ok i := by
  obtain ⟨op, f, henc, hdec⟩ := exists_opcode_of_isCommand h
  exact ⟨commandWord op f, henc, (decodeCommand_commandWord op f).trans hdec⟩

/-! ### An instruction's access decodes to it (20_memory.md R55) -/

/-- A write to CMD carries its word (45_control.md R211). -/
theorem decodeAccess_cmdWrite (base : Nat) (w : Word) :
    decodeAccess base (.write (base + cmdOffset) 4 w) = .ok (.run (.busCmdWrite w)) :=
  decodeAccess_write base (by decide) rfl w

/-- A write to an operand register's offset asks for that register (45_control.md R212). -/
theorem decodeAccess_operandWrite (base : Nat) (r : OperandReg) (v : Word) :
    decodeAccess base (.write (base + r.offset) 4 v) = .ok (.run (.busOperandWrite r v)) := by
  cases r <;> exact decodeAccess_write base (by decide) rfl v

/-- The access of a well-formed bus operation. -/
theorem exists_access_of_not_isCommand (base : Nat) {i : Instr} (hi : isCommand i = false) (wf : i.wellFormed = true) :
    ∃ a, encode base i = some a ∧ decodeAccess base a = .ok (.run i) := by
  cases i with
  | busCmdWrite w => exact ⟨_, rfl, decodeAccess_cmdWrite base w⟩
  | busOperandWrite r v => exact ⟨_, rfl, decodeAccess_operandWrite base r v⟩
  | busStatusWrite v => exact ⟨_, rfl, decodeAccess_write base (by decide) rfl v⟩
  | busRead off =>
    obtain ⟨inside, aligned⟩ : off < 0x1000 ∧ off % 4 = 0 := by simpa [Instr.wellFormed, offsetOk] using wf
    exact ⟨_, rfl, decodeAccess_read base inside aligned⟩
  | busRxdataWrite w => exact ⟨_, rfl, decodeAccess_write base (by decide) rfl w⟩
  | _ => cases hi

/-- Settles O2: a command goes through its word, a bus operation through its offset. -/
theorem accessDecodeEncodeAgree : Obligations.AccessDecodeEncodeAgree := by
  intro base i wf
  cases hi : isCommand i with
  | false =>
    obtain ⟨a, henc, hdec⟩ := exists_access_of_not_isCommand base hi wf
    exact ⟨a, henc, fun _ => hdec, nofun⟩
  | true =>
    obtain ⟨w, henc, hdec⟩ := exists_word_of_isCommand hi
    exact ⟨.write (base + cmdOffset) 4 w, by rw [encode, henc], nofun, fun _ => ⟨w, decodeAccess_cmdWrite base w, hdec⟩⟩

/-! ### The register map past CFG (20_memory.md R55) -/

theorem targetAt_of_ge {off : Nat} (h : 0x048 ≤ off) :
    targetAt off =
      if 0x100 ≤ off ∧ off < 0x200 then .txWindow ((off - 0x100) / 4)
      else if 0x200 ≤ off ∧ off < 0x300 then .frameWindow ((off - 0x200) / 4)
      else .unmapped := by
  obtain ⟨n, rfl⟩ := Nat.exists_eq_add_of_le' h
  rfl

theorem targetAt_txWindow {k : Nat} (hk : k ≤ 63) : targetAt (0x100 + 4 * k) = .txWindow k := by
  have inWindow : 0x100 ≤ 0x100 + 4 * k ∧ 0x100 + 4 * k < 0x200 := by omega
  rw [targetAt_of_ge (by omega), if_pos inWindow, Nat.add_sub_cancel_left, Nat.mul_div_cancel_left k (by decide)]

theorem targetAt_frameWindow {k : Nat} (hk : k ≤ 63) : targetAt (0x200 + 4 * k) = .frameWindow k := by
  have pastTx : ¬ (0x100 ≤ 0x200 + 4 * k ∧ 0x200 + 4 * k < 0x200) := by omega
  have inWindow : 0x200 ≤ 0x200 + 4 * k ∧ 0x200 + 4 * k < 0x300 := by omega
  rw [targetAt_of_ge (by omega), if_neg pastTx, if_pos inWindow, Nat.add_sub_cancel_left,
    Nat.mul_div_cancel_left k (by decide)]

theorem targetAt_unmapped {off : Nat} (h : (0x048 ≤ off ∧ off < 0x100) ∨ 0x300 ≤ off) : targetAt off = .unmapped := by
  rw [targetAt_of_ge (by omega), if_neg (by omega), if_neg (by omega)]

/-- Nothing past CFG can be written (R52, R57, R58). -/
theorem writeStep_targetAt_of_ge {off : Nat} (h : 0x048 ≤ off) (v : Word) : writeStep (targetAt off) v = .noEffect := by
  rw [targetAt_of_ge h]
  split
  · rfl
  · split <;> rfl

/-- The writable offsets are those of CMD to VALUE, and RXDATA (R52, R55). -/
theorem writeStep_targetAt_readOnly {off : Nat} (aligned : off % 4 = 0)
    (h : (0x020 ≤ off ∧ off < 0x040) ∨ 0x044 ≤ off) (v : Word) : writeStep (targetAt off) v = .noEffect := by
  obtain ⟨k, rfl⟩ := Nat.dvd_of_mod_eq_zero aligned
  by_cases past : 0x048 ≤ 4 * k
  · exact writeStep_targetAt_of_ge past v
  · have results : (8 ≤ k ∧ k < 16) ∨ k = 17 := by omega
    rcases results with ⟨lo, hi⟩ | rfl
    · interval_cases k <;> rfl
    · rfl

/-! ### What a read returns (45_control.md R214) -/

/-- A read of an ill-formed offset stops as the access would (log 15). -/
theorem exec_busRead_of_rejected {off : Nat} {e : AccessReject} (h : checkAccess 0 off 4 = .error e) (s : State) :
    exec (.busRead off) s = rejectAccess e := by
  simp only [exec, execBusRead, h]

/-- What a read returns does not depend on what the last one returned (20_memory.md R53). -/
theorem readTarget_withReadData (s : State) (v : Word) (t : Target) :
    readTarget (s.withReadData v) t = readTarget s t := by
  cases t with
  | operand r => cases r <;> rfl
  | _ => rfl

/-- The offsets that read 0: unlisted ones and the write-only ports (R52). -/
theorem readTarget_targetAt_eq_zero {off : Nat}
    (h : (0x048 ≤ off ∧ off < 0x100) ∨ 0x300 ≤ off ∨ off = 0x000 ∨ off = 0x040) (s : State) :
    readTarget s (targetAt off) = 0 := by
  rcases h with unlisted | unlisted | rfl | rfl
  · rw [targetAt_unmapped (.inl unlisted)]; rfl
  · rw [targetAt_unmapped (.inr unlisted)]; rfl
  · rfl
  · rfl

/-- Settles O7: by the target of each offset; a STATUS write acts only through bit 4. -/
theorem unmappedAndReadOnlyAccesses : Obligations.UnmappedAndReadOnlyAccesses := by
  refine ⟨fun s off aligned h => ?read, fun s off v rest aligned h hp => ?write, fun s v clear => ?status⟩
  case read =>
    rw [exec_busRead (by omega) aligned, readTarget_targetAt_eq_zero (by omega)]
    rfl
  case write =>
    have noEffect : decodeAccess s.params.base (.write (s.params.base + off) 4 v) = .ok .noEffect := by
      rw [decodeAccess_write _ (by omega) aligned, writeStep_targetAt_readOnly aligned (by omega)]
    exact step_of_noEffect hp noEffect
  case status =>
    exact (execBusStatusWrite_eq v s).trans (by rw [clear, Bool.not_false, Bool.and_true]; rfl)

/-! ### The windows (20_memory.md R57, R58) -/

/-- A byte in lane `l` of a bus word, bits `8l+7 : 8l`. -/
def byteLane (b : Byte) (l : Nat) : Word := b.setWidth 32 <<< (8 * l)

theorem windowWord_eq_byteLanes (bs : List Byte) (k : Nat) :
    windowWord bs k = byteLane (bs.getD (4 * k) 0) 0 ||| byteLane (bs.getD (4 * k + 1) 0) 1
      ||| byteLane (bs.getD (4 * k + 2) 0) 2 ||| byteLane (bs.getD (4 * k + 3) 0) 3 := by
  rw [byteLane, Nat.mul_zero, BitVec.shiftLeft_zero]
  rfl

/-- A lane does not reach into another. -/
theorem extractLsb'_byteLane (b : Byte) (l : Nat) {j : Nat} (hj : j ≤ 3) :
    (byteLane b l).extractLsb' (8 * j) 8 = if l = j then b else 0 := by
  apply BitVec.eq_of_getLsbD_eq
  intro i hi
  have inWord : 8 * j + i < 32 := by omega
  rw [byteLane, BitVec.getLsbD_extractLsb', BitVec.getLsbD_shiftLeft, BitVec.getLsbD_setWidth]
  rcases Nat.lt_trichotomy l j with below | rfl | above
  · have pastEnd : b.getLsbD (8 * j + i - 8 * l) = false := BitVec.getLsbD_of_ge _ _ (by omega)
    simp [pastEnd, below.ne]
  · have inByte : i < 32 := by omega
    simp [hi, inWord, inByte]
  · have belowLane : 8 * j + i < 8 * l := by omega
    simp [belowLane, above.ne']

/-- Byte `j` of a window's word. -/
theorem extractLsb'_windowWord (bs : List Byte) (k : Nat) {j : Nat} (hj : j ≤ 3) :
    (windowWord bs k).extractLsb' (8 * j) 8 = bs.getD (4 * k + j) 0 := by
  simp only [windowWord_eq_byteLanes, BitVec.extractLsb'_or, extractLsb'_byteLane _ _ hj]
  interval_cases j <;> simp

/-- The byte at an index of a string, 0 past its end. -/
theorem getD_zero_eq_dite (bs : List Byte) (n : Nat) : bs.getD n 0 = if h : n < bs.length then bs[n] else 0 := by
  split
  next inside => exact List.getD_eq_getElem bs 0 inside
  next past => exact List.getD_eq_default bs 0 (Nat.le_of_not_lt past)

theorem decodeAccess_write_of_ge (base : Nat) {off : Nat} (past : 0x048 ≤ off) (inside : off < 0x1000)
    (aligned : off % 4 = 0) (v : Word) : decodeAccess base (.write (base + off) 4 v) = .ok .noEffect := by
  rw [decodeAccess_write base inside aligned, writeStep_targetAt_of_ge past]

/-- Settles O57: each byte of a window stands in a lane of its own; no offset past CFG can be written. -/
theorem bufferWindows : Obligations.BufferWindows := by
  refine ⟨fun s k j hk hj => ⟨⟨windowWord s.tx k, ?txRead, ?txByte⟩, windowWord s.frame k, ?frameRead, ?frameByte⟩,
    fun base k w hk => ⟨?txWrite, ?frameWrite⟩⟩
  case txRead =>
    rw [exec_busRead (by omega) (by omega), targetAt_txWindow hk]
    rfl
  case frameRead =>
    rw [exec_busRead (by omega) (by omega), targetAt_frameWindow hk]
    rfl
  case txByte | frameByte => rw [extractLsb'_windowWord _ k hj, getD_zero_eq_dite]
  case txWrite | frameWrite =>
    rw [Nat.add_assoc]
    exact decodeAccess_write_of_ge base (by omega) (by omega) (by omega) w

/-! ### Accesses without a step, and the listed registers -/

/-- Settles O6: the checks of an access fail in the order of log 6, and the step reports the first that does. -/
theorem undefinedAccessesHaveNoStep : Obligations.UndefinedAccessesHaveNoStep := by
  refine ⟨fun s a addr width rest hp ha => ⟨fun inside wide => ?badWidth, fun inside four unaligned => ?unaligned,
    fun outside => ?outside⟩, fun s idle => ?idle⟩
  case badWidth => exact step_of_rejected hp (decodeAccess_eq_error ha (checkAccess_eq_badWidth inside wide))
  case unaligned =>
    subst four
    exact step_of_rejected hp (decodeAccess_eq_error ha (checkAccess_eq_unaligned inside unaligned))
  case outside => exact step_of_rejected hp (decodeAccess_eq_error ha (checkAccess_eq_outside outside width))
  case idle => simp only [step, fetch, idle]

/-- Settles O53: each offset is aligned and inside the register space, and `readTarget` names its register. -/
theorem registerReads : Obligations.RegisterReads := by
  intro s
  simp only [List.forall_mem_cons, BitVec.ofNat_toNat]
  refine ⟨?_, ?_, ?_, ?_, ?_, ?_, ?_, ?_, ?_, ?_, ?_, ?_, ?_, ?_, nofun⟩ <;>
    exact exec_busRead (by decide) (by decide) s

/-- Settles O54: a read that completes changes only `readData`, on which no read depends. -/
theorem readsChangeNothing : Obligations.ReadsChangeNothing := by
  refine ⟨fun s off inside aligned => ⟨readTarget s (targetAt off), exec_busRead inside aligned s, ?again⟩,
    fun s off inside unaligned => ?unaligned, fun s off outside => ?outside⟩
  case again =>
    have again := exec_busRead inside aligned (s.withReadData (readTarget s (targetAt off)))
    rwa [readTarget_withReadData] at again
  case unaligned =>
    exact exec_busRead_of_rejected
      (checkAccess_eq_unaligned (base := 0) ⟨Nat.zero_le off, by rwa [Nat.zero_add]⟩ unaligned) s
  case outside => exact exec_busRead_of_rejected (checkAccess_eq_outside (base := 0) (by omega) 4) s

end Sys2Proof.Machine
end

section
/-! PROOF. The command words: which are legal, and which command each is (30_encoding.md R70 to R74). -/

namespace Sys2Proof.Machine

/-! ### The fields make up the word (R70) -/

/-- A word whose upper half is 0 is made of its opcode and its field. -/
theorem commandWord_fields {w : Word} (upper : fieldZ w = 0) : commandWord (fieldOp w) (fieldF w) = w := by
  apply BitVec.eq_of_getLsbD_eq
  intro i hi
  rw [getLsbD_commandWord _ _ hi, fieldOp, fieldF, BitVec.getLsbD_extractLsb', BitVec.getLsbD_extractLsb', Nat.zero_add]
  rcases Nat.lt_or_ge i 8 with inOp | pastOp
  · have notF : ¬ 8 ≤ i := by omega
    simp [inOp, notF]
  · have notOp : ¬ i < 8 := by omega
    rcases Nat.lt_or_ge i 16 with inF | pastF
    · have inField : i - 8 < 8 := by omega
      simp [pastOp, notOp, inField]
    · have zero : w.getLsbD i = false := by
        have bit := congrArg (fun z : Half => z.getLsbD (i - 16)) upper
        have inZ : i - 16 < 16 := by omega
        simpa [fieldZ, BitVec.getLsbD_extractLsb', inZ, pastF] using bit
      simp [notOp, zero, pastOp]

theorem decodeCommand_eq_ok_iff (w : Word) (i : Instr) :
    decodeCommand w = .ok i ↔ fieldZ w = 0 ∧ decodeOp (fieldOp w) (fieldF w) = .ok i := by
  unfold decodeCommand
  split
  next upper => simp only [upper, true_and]
  next upper => simp only [upper, reduceCtorEq, false_and]

/-! ### What decodes is encoded so (R71 to R74) -/

theorem isCommand_of_encodeCommand {i : Instr} {w : Word} (h : encodeCommand i = some w) : isCommand i = true := by
  cases i with
  | busCmdWrite _ | busOperandWrite _ _ | busStatusWrite _ | busRead _ | busRxdataWrite _ => cases h
  | _ => rfl

/-- The word of an opcode and a field is the encoder's word of whatever is decoded from them. -/
def IsEncoded (op f : Byte) (r : Except WordReject Instr) : Prop :=
  ∀ i, r = .ok i → encodeCommand i = some (commandWord op f)

section
variable {op f : Byte} {j k : Instr}

theorem isEncoded_ok (h : encodeCommand j = some (commandWord op f)) : IsEncoded op f (.ok j) := by
  rintro i ⟨⟩
  exact h

theorem isEncoded_error (e : WordReject) : IsEncoded op f (.error e) := nofun

theorem isEncoded_noField (h : encodeCommand j = some (commandWord op 0)) : IsEncoded op f (noField f j) := by
  unfold noField
  split
  next zero => exact isEncoded_ok (zero ▸ h)
  next => exact isEncoded_error _

theorem isEncoded_selField (hj : encodeCommand j = some (commandWord op 0))
    (hk : encodeCommand k = some (commandWord op 1)) : IsEncoded op f (selField f j k) := by
  unfold selField
  split
  next zero => exact isEncoded_ok (zero ▸ hj)
  next =>
    split
    next one => exact isEncoded_ok (one ▸ hk)
    next => exact isEncoded_error _

end

theorem eq_ofNat_of_toNat_eq {b : Byte} {n : Nat} (h : b.toNat = n) : b = BitVec.ofNat 8 n := by
  rw [← h, BitVec.ofNat_toNat, BitVec.setWidth_eq]

/-- By the rows of the opcode map, numbered in its order, the reserved opcodes last: those whose field is an operand, the two
selectors, and those whose field must be 0 (R71, R73). -/
theorem isEncoded_decodeOp (op f : Byte) : IsEncoded op f (decodeOp op f) := by
  unfold decodeOp
  split
  case h_27 => exact isEncoded_error _
  all_goals
    rename_i opcode
    obtain rfl := eq_ofNat_of_toNat_eq opcode
  case h_5 | h_21 | h_22 | h_23 | h_24 => exact isEncoded_ok rfl
  case h_7 | h_11 => exact isEncoded_selField rfl rfl
  all_goals exact isEncoded_noField rfl

/-- A word that decodes is the encoder's word of its command. -/
theorem encodeCommand_of_decodeCommand {w : Word} {i : Instr} (h : decodeCommand w = .ok i) :
    encodeCommand i = some w := by
  obtain ⟨upper, hop⟩ := (decodeCommand_eq_ok_iff w i).1 h
  rw [isEncoded_decodeOp _ _ i hop, commandWord_fields upper]

/-- Settles O1: a command's opcode and field are read back from its word, and a legal word is nothing but its opcode and
field. -/
theorem decodeEncodeAgreeOnCommands : Obligations.DecodeEncodeAgreeOnCommands := by
  refine ⟨fun i hi => exists_word_of_isCommand hi, fun w i h => ?_⟩
  have henc := encodeCommand_of_decodeCommand h
  exact ⟨henc, isCommand_of_encodeCommand henc⟩

/-- Settles O4: by evaluation of the decoder. -/
theorem sampleWordsDecode : Obligations.SampleWordsDecode := ⟨rfl, rfl, rfl, rfl, rfl, rfl, rfl, rfl⟩

/-! ### Which words are legal, and what a CMD write of a word does (R71 to R73, R235) -/

theorem exists_noField_eq_ok_iff (f : Byte) (j : Instr) : (∃ i, noField f j = .ok i) ↔ f = 0 := by
  unfold noField
  split
  next zero => simp [zero]
  next nonzero => simpa using nonzero

theorem exists_selField_eq_ok_iff (f : Byte) (j k : Instr) : (∃ i, selField f j k = .ok i) ↔ f.toNat ≤ 1 := by
  unfold selField
  split
  next zero => simp [zero]
  next nonzero =>
    split
    next one => simp [one]
    next notOne =>
      have large : ¬ f.toNat ≤ 1 := by bv_omega
      simp [large]

/-- The legal pairs of opcode and field, by the field kind of each row; the last case is the reserved opcodes (R71, R73). -/
theorem exists_decodeOp_eq_ok_iff (op f : Byte) :
    (∃ i, decodeOp op f = .ok i) ↔
      (f = 0 ∧ op.toNat ∈ [0x00, 0x01, 0x02, 0x03, 0x10, 0x12, 0x13, 0x14, 0x16, 0x17, 0x18, 0x19, 0x20, 0x21, 0x22,
        0x23, 0x24, 0x34, 0x35]) ∨
      (f.toNat ≤ 1 ∧ op.toNat ∈ [0x11, 0x15]) ∨ op.toNat ∈ [0x04, 0x30, 0x31, 0x32, 0x33] := by
  unfold decodeOp
  split
  case h_27 => simp_all
  all_goals
    rename_i opcode
    simp [opcode, exists_noField_eq_ok_iff, exists_selField_eq_ok_iff]

theorem exec_busCmdWrite_of_ok {w : Word} {i : Instr} (h : decodeCommand w = .ok i) (s : State) :
    exec (.busCmdWrite w) s = exec i s := by
  have command := isCommand_of_encodeCommand (encodeCommand_of_decodeCommand h)
  calc exec (.busCmdWrite w) s
    _ = execBusCmdWrite w s := rfl
    _ = performCommand i s := by simp only [execBusCmdWrite, h]
    _ = exec i s := (exec_eq_performCommand command s).symm

theorem exec_busCmdWrite_of_error {w : Word} {e : WordReject} (h : decodeCommand w = .error e) (s : State) :
    exec (.busCmdWrite w) s = .next (s.endWith .illegalCommand) := by
  simp only [exec, execBusCmdWrite, h, raise_eq]

/-- Settles O3: a word is legal when its upper half is 0 and its opcode and field are; an illegal one ends with code 8. -/
theorem legalWordsAndIllegalCommand : Obligations.LegalWordsAndIllegalCommand := by
  refine ⟨fun w => ?legal, fun w i s h => exec_busCmdWrite_of_ok h s, fun w s noCommand => ?illegal⟩
  case legal =>
    simp only [decodeCommand_eq_ok_iff, exists_and_left, exists_decodeOp_eq_ok_iff]
    rfl
  case illegal =>
    cases decoded : decodeCommand w with
    | ok i => exact absurd ⟨i, decoded⟩ noCommand
    | error e => exact exec_busCmdWrite_of_error decoded s

end Sys2Proof.Machine
end

section
/-! PROOF. Well-formed response lines (30_encoding.md R80, 44_response.md R190 to R196). -/

namespace Sys2Proof.Machine

/-! ### A parse that succeeds (R191) -/

theorem parseTail_of_fields {lower : Bool} {frame : List Byte} {c v : Nat} (ctl : Byte) (a q : Nat)
    (hc : unhex lower (slice frame (frame.length - 4) frame.length) = some c)
    (sum : (crc16 (slice frame 0 (frame.length - 4))).toNat = c) (hv : unhex lower (slice frame 7 15) = some v) :
    parseTail lower frame ctl a q =
      .ok { ctl := ctl, addr := BitVec.ofNat 8 a, seq := BitVec.ofNat 16 q, value := BitVec.ofNat 32 v,
            crc := BitVec.ofNat 16 c } := by
  simp only [parseTail, hc, sum, hv, ne_eq, not_true_eq_false, if_false]

/-- A line that is long enough and has a legal control byte and hex header fields is judged by its tail. -/
theorem parseResponse_of_header {p : Params} {frame : List Byte} {a q : Nat} (long : 19 ≤ frame.length)
    (strict : p.strictControl = true → frame.getD 0 0 = charBang) (ha : unhex p.hexLowerOk (slice frame 1 3) = some a)
    (hq : unhex p.hexLowerOk (slice frame 3 7) = some q) :
    parseResponse p frame = parseTail p.hexLowerOk frame (frame.getD 0 0) a q := by
  have control : ¬ (p.strictControl = true ∧ frame.getD 0 0 ≠ charBang) := fun ⟨on, other⟩ => other (strict on)
  rw [parseResponse, if_neg (by omega), if_neg control, ha, hq]
  exact if_neg (by omega)

/-! ### The fields of a response line (R80) -/

/-- A slice that covers the middle of three strings. -/
theorem slice_append_append {pre mid post : List Byte} {a b : Nat} (ha : pre.length = a) (hb : a + mid.length = b) :
    slice (pre ++ (mid ++ post)) a b = mid := by
  subst ha hb
  rw [slice, ← List.append_assoc, List.take_left' List.length_append, List.drop_left]

/-- A rendered value is read from where it stands in a line. -/
theorem unhex_slice_of_hexN {line pre post : List Byte} {a b n v : Nat} (lower : Bool)
    (stands : line = pre ++ (hexN n v ++ post)) (ha : pre.length = a) (hb : a + n = b) (fits : v < 16 ^ n) :
    unhex lower (slice line a b) = some v := by
  rw [stands, slice_append_append ha (by rwa [hexN_length])]
  exact (unhexOfHex lower n v fits).2

section
variable (ctl a : Byte) (q : Half) (v : Word) (ext : List Byte)

theorem responseBody_length : (responseBody ctl a q v ext).length = 15 + ext.length := by
  simp [responseBody]
  omega

theorem responseLine_length : (responseLine ctl a q v ext).length = (responseBody ctl a q v ext).length + 4 := by
  simp [responseLine]

theorem parseTail_responseLine (lower : Bool) :
    parseTail lower (responseLine ctl a q v ext) ctl a.toNat q.toNat =
      .ok { ctl := ctl, addr := a, seq := q, value := v, crc := crc16 (responseBody ctl a q v ext) } := by
  have bodyEnd : (responseLine ctl a q v ext).length - 4 = (responseBody ctl a q v ext).length := by
    rw [responseLine_length, Nat.add_sub_cancel]
  have body : slice (responseLine ctl a q v ext) 0 (responseBody ctl a q v ext).length = responseBody ctl a q v ext :=
    slice_append_append (pre := []) rfl (Nat.zero_add _)
  have value : unhex lower (slice (responseLine ctl a q v ext) 7 15) = some v.toNat :=
    unhex_slice_of_hexN (pre := [ctl] ++ hexN 2 a.toNat ++ hexN 4 q.toNat) (n := 8) lower
      (by simp only [responseLine, responseBody, List.append_assoc]; rfl) (by simp) rfl v.isLt
  have checksum : unhex lower (slice (responseLine ctl a q v ext) (responseBody ctl a q v ext).length
      (responseLine ctl a q v ext).length) = some (crc16 (responseBody ctl a q v ext)).toNat :=
    unhex_slice_of_hexN (post := []) lower (by rw [List.append_nil, responseLine]) rfl
      (responseLine_length ctl a q v ext).symm (BitVec.isLt _)
  rw [parseTail_of_fields ctl a.toNat q.toNat (bodyEnd ▸ checksum) (by rw [bodyEnd, body]) value]
  simp only [BitVec.ofNat_toNat, BitVec.setWidth_eq]

/-- The parser reads back what a response line was made of. -/
theorem parseResponse_responseLine {p : Params} (strict : p.strictControl = true → ctl = charBang) :
    parseResponse p (responseLine ctl a q v ext) =
      .ok { ctl := ctl, addr := a, seq := q, value := v, crc := crc16 (responseBody ctl a q v ext) } := by
  have addr : unhex p.hexLowerOk (slice (responseLine ctl a q v ext) 1 3) = some a.toNat :=
    unhex_slice_of_hexN (pre := [ctl]) (n := 2) _ (by simp only [responseLine, responseBody, List.append_assoc]; rfl) rfl rfl
      a.isLt
  have seq : unhex p.hexLowerOk (slice (responseLine ctl a q v ext) 3 7) = some q.toNat :=
    unhex_slice_of_hexN (pre := [ctl] ++ hexN 2 a.toNat) (n := 4) _
      (by simp only [responseLine, responseBody, List.append_assoc]; rfl) (by simp) rfl q.isLt
  have long : 19 ≤ (responseLine ctl a q v ext).length := by
    rw [responseLine_length, responseBody_length]
    omega
  rw [parseResponse_of_header long strict addr seq]
  exact parseTail_responseLine ctl a q v ext p.hexLowerOk

end

/-! ### The response commands (R195, R196) -/

theorem exec_rspF32_of_parsed {s : State} {r : Response} (h : parseResponse s.params s.frame = .ok r) :
    exec .rspF32 s = .next { s with
      rctl := r.ctl, raddr := r.addr, rseq := r.seq, crc := r.crc, res := r.value, err := 0 } := by
  simp only [exec, execRspF32, h]
  rfl

theorem setWidth_extractLsb'_low (v : Word) : (v.extractLsb' 0 16).setWidth 32 = v &&& 0x0000FFFF := by
  apply BitVec.eq_of_toNat_eq
  rw [BitVec.toNat_setWidth, BitVec.extractLsb'_toNat, Nat.shiftRight_zero, Nat.mod_eq_of_lt (by omega),
    BitVec.toNat_and, ← Nat.and_two_pow_sub_one_eq_mod]
  rfl

theorem extractLsb'_high_ne_zero (v : Word) : (v.extractLsb' 16 16 != 0) = decide (2 ^ 16 ≤ v.toNat) := by
  have high : v.extractLsb' 16 16 = 0 ↔ v.toNat < 2 ^ 16 := by
    rw [BitVec.toNat_eq, BitVec.extractLsb'_toNat, Nat.shiftRight_eq_div_pow]
    simp
    omega
  rw [bne, beq_eq_decide, ← decide_not, decide_eq_decide, high, Nat.not_lt]

theorem exec_rspU16_of_parsed {s : State} {r : Response} (h : parseResponse s.params s.frame = .ok r) :
    exec .rspU16 s = .next { s with
      rctl := r.ctl, raddr := r.addr, rseq := r.seq, crc := r.crc,
      res := r.value &&& 0x0000FFFF, narrow := decide (2 ^ 16 ≤ r.value.toNat), err := 0 } := by
  simp only [exec, execRspU16, h, setWidth_extractLsb'_low, extractLsb'_high_ne_zero]
  rfl

/-- Settles O48: both commands store what the parser reads back from the line. -/
theorem responseLinesDecode : Obligations.ResponseLinesDecode := by
  refine ⟨⟨rfl, rfl⟩, fun s ctl a q v ext line strict => ?_⟩
  have parsed := parseResponse_responseLine ctl a q v ext strict
  rw [← line] at parsed
  constructor
  · rw [exec_rspF32_of_parsed parsed]
  · rw [exec_rspU16_of_parsed parsed]

end Sys2Proof.Machine
end

section
/-! PROOF. The commands that append to TX: the encoders, and the fixed bytes (40_codec.md R100 to R105, 42_assembler.md R151,
R152). -/

namespace Sys2Proof.Machine

/-! ### An append with and without room (R100) -/

theorem appendCommand_of_room {bs : List Byte} {s : State} (room : s.tx.length + bs.length ≤ s.params.txCap) :
    appendCommand bs s = .next { s with tx := s.tx ++ bs, err := 0 } := by
  rcases appendCommand_cases bs s with ⟨-, appended⟩ | ⟨full, -⟩
  · exact appended
  · exact absurd room (Nat.not_le.2 full)

theorem appendCommand_of_full {bs : List Byte} {s : State} (full : s.params.txCap < s.tx.length + bs.length) :
    appendCommand bs s = .next { s with err := 9, errs := true } := by
  rcases appendCommand_cases bs s with ⟨room, -⟩ | ⟨-, overflow⟩
  · exact absurd full (Nat.not_lt.2 room)
  · exact overflow

/-! ### The value encoders (R101 to R103) -/

/-- The instruction appends the `n` digits of OPA, after the check that `n` digits can hold it. -/
def EncodesDigits (i : Instr) (n : Nat) : Prop :=
  ∀ s : State, exec i s =
    if 16 ^ n - 1 < s.opa.toNat then raise .encodingError s else appendCommand (hexN n s.opa.toNat) s

theorem encU8_encodesDigits : EncodesDigits .encU8 2 := fun _ => rfl

theorem encU16_encodesDigits : EncodesDigits .encU16 4 := fun _ => rfl

/-- No word is too large for 8 digits, so ENC_F32 needs no check (R103). -/
theorem encF32_encodesDigits : EncodesDigits .encF32 8 := by
  intro s
  have fits : ¬ 16 ^ 8 - 1 < s.opa.toNat := by omega
  rw [if_neg fits]
  rfl

section
variable {i : Instr} {n : Nat} {s : State}

theorem EncodesDigits.exec_of_fits (h : EncodesDigits i n) (fits : s.opa.toNat < 16 ^ n) :
    exec i s = appendCommand (hexN n s.opa.toNat) s := by
  rw [h s, if_neg (by omega)]

theorem EncodesDigits.exec_of_room (h : EncodesDigits i n) (fits : s.opa.toNat < 16 ^ n)
    (room : s.tx.length + n ≤ s.params.txCap) :
    exec i s = .next { s with tx := s.tx ++ hexN n s.opa.toNat, err := 0 } := by
  rw [h.exec_of_fits fits, appendCommand_of_room (by rwa [hexN_length])]

theorem EncodesDigits.exec_of_full (h : EncodesDigits i n) (fits : s.opa.toNat < 16 ^ n)
    (full : s.params.txCap < s.tx.length + n) : exec i s = .next { s with err := 9, errs := true } := by
  rw [h.exec_of_fits fits, appendCommand_of_full (by rwa [hexN_length])]

theorem EncodesDigits.exec_of_tooLarge (h : EncodesDigits i n) (tooLarge : 16 ^ n - 1 < s.opa.toNat) :
    exec i s = .next { s with err := 1, errs := true } := by
  rw [h s, if_pos tooLarge]
  rfl

end

/-- Settles O33: both commands are digit encoders, and their limit is the largest value of 2 or 4 digits. -/
theorem encU8AndU16AppendTheirDigits : Obligations.EncU8AndU16AppendTheirDigits := by
  intro row mem
  obtain ⟨word, encoder, limit⟩ : decodeCommand row.1 = .ok row.2.1 ∧ EncodesDigits row.2.1 row.2.2.1 ∧
      row.2.2.2 = 16 ^ row.2.2.1 - 1 := by
    fin_cases mem
    · exact ⟨rfl, encU8_encodesDigits, rfl⟩
    · exact ⟨rfl, encU16_encodesDigits, rfl⟩
  have fits_iff (v : Nat) : v ≤ row.2.2.2 ↔ v < 16 ^ row.2.2.1 := by
    rw [limit, Nat.le_sub_one_iff_lt (Nat.pow_pos (by decide))]
  refine ⟨word, fun s inRange room => ?_, fun s outOfRange => ?_, fun s inRange full => ?_⟩
  · exact encoder.exec_of_room ((fits_iff _).1 inRange) room
  · exact encoder.exec_of_tooLarge (limit ▸ outOfRange)
  · exact encoder.exec_of_full ((fits_iff _).1 inRange) full

/-- Settles O34: every 32-bit pattern fits 8 digits. -/
theorem encF32AppendsEightDigits : Obligations.EncF32AppendsEightDigits :=
  ⟨rfl, fun s room => encF32_encodesDigits.exec_of_room s.opa.isLt room,
    fun s full => encF32_encodesDigits.exec_of_full s.opa.isLt full⟩

/-! ### Fixed bytes (R105, R151, R152) -/

theorem selField_of_two_le {f : Byte} (large : 2 ≤ f.toNat) (a b : Instr) :
    selField f a b = .error .selOutOfRange := by
  have notZero : f ≠ 0 := by bv_omega
  have notOne : f ≠ 1 := by bv_omega
  rw [selField, if_neg notZero, if_neg notOne]

/-- An opcode whose field is a selector has no command for a selector of 2 or more (30_encoding.md R71, R72). -/
theorem exec_busCmdWrite_of_selector {op f : Byte} {a b : Instr} (selector : decodeOp op f = selField f a b)
    (large : 2 ≤ f.toNat) (s : State) :
    exec (.busCmdWrite (commandWord op f)) s = .next { s with err := 8, errs := true } := by
  have illegal : decodeCommand (commandWord op f) = .error .selOutOfRange := by
    rw [decodeCommand_commandWord, selector, selField_of_two_le large]
  exact exec_busCmdWrite_of_error illegal s

/-- Settles O35: a selector past 1 is no command, and each of the five commands is the append of its bytes. -/
theorem fixedByteAppends : Obligations.FixedByteAppends := by
  refine ⟨⟨rfl, rfl, rfl, rfl, rfl⟩, fun f s large => ⟨?_, ?_⟩, fun row mem s => ?_⟩
  · exact exec_busCmdWrite_of_selector (op := 0x11) rfl large s
  · exact exec_busCmdWrite_of_selector (op := 0x15) rfl large s
  · have append : exec row.1 s = appendCommand row.2 s := by fin_cases mem <;> rfl
    rw [append]
    exact ⟨appendCommand_of_room, appendCommand_of_full⟩

end Sys2Proof.Machine
end

section
/-! PROOF. The commands that decode FRAME, and the round trip of encoder and decoder (40_codec.md R106, R110 to R114). -/

namespace Sys2Proof.Machine

/-! ### Fields (R106, R110 to R112) -/

theorem slice_add (s : List Byte) (a n : Nat) : slice s a (a + n) = (s.drop a).take n := by
  rw [slice, List.drop_take, Nat.add_sub_cancel_left]

theorem frameField_of_inside {frame : List Byte} {off w : Nat} (inside : off + w ≤ frame.length) (lower : Bool) :
    frameField lower frame off w = unhex lower ((frame.drop off).take w) := by
  rw [frameField, if_neg (Nat.not_lt.2 inside), slice_add]

theorem frameField_of_outside {frame : List Byte} {off w : Nat} (outside : frame.length < off + w) (lower : Bool) :
    frameField lower frame off w = none := by
  rw [frameField, if_pos outside]

/-- The instructions decode the field of `w` characters at their offset. -/
def DecodesField (d : Byte → Instr) (w : Nat) : Prop := ∀ off s, exec (d off) s = decodeField off w s

theorem decU8_decodesField : DecodesField .decU8 2 := fun _ _ => rfl

theorem decU16_decodesField : DecodesField .decU16 4 := fun _ _ => rfl

theorem decF32_decodesField : DecodesField .decF32 8 := fun _ _ => rfl

section
variable {d : Byte → Instr} {w : Nat} {off : Byte} {s : State}

theorem DecodesField.exec_of_some (h : DecodesField d w) {v : Nat}
    (field : frameField s.params.hexLowerOk s.frame off.toNat w = some v) :
    exec (d off) s = .next { s with res := BitVec.ofNat 32 v, err := 0 } := by
  rw [h off s, decodeField, field]
  rfl

theorem DecodesField.exec_of_none (h : DecodesField d w)
    (field : frameField s.params.hexLowerOk s.frame off.toNat w = none) :
    exec (d off) s = .next { s with err := 2, errs := true } := by
  rw [h off s, decodeField, field]
  rfl

end

/-- Settles O44: the three words by their opcodes, the rest by what the field is. -/
theorem decodeFieldCommands : Obligations.DecodeFieldCommands := by
  intro row mem
  obtain ⟨word, decoder⟩ : (∀ off : Byte, decodeCommand (row.1 ||| (off.setWidth 32 <<< 8)) = .ok (row.2.1 off)) ∧
      DecodesField row.2.1 row.2.2 := by
    fin_cases mem
    · exact ⟨decodeCommand_commandWord 0x30, decU8_decodesField⟩
    · exact ⟨decodeCommand_commandWord 0x31, decU16_decodesField⟩
    · exact ⟨decodeCommand_commandWord 0x32, decF32_decodesField⟩
  refine ⟨word, fun off s v inside value => ?_, fun off s outside => ?_, fun off s inside noHex => ?_⟩
  · exact decoder.exec_of_some ((frameField_of_inside inside _).trans value)
  · exact decoder.exec_of_none (frameField_of_outside outside _)
  · exact decoder.exec_of_none ((frameField_of_inside inside _).trans noHex)

/-! ### Tokens (R113) -/

/-- The test `frameToken` makes is that the bytes begin the rest of the line. -/
theorem slice_eq_iff_isPrefix {frame bs : List Byte} {off n : Nat} (hn : bs.length = n) (pos : 0 < n) :
    (off + n ≤ frame.length ∧ slice frame off (off + n) = bs) ↔ bs <+: frame.drop off := by
  subst hn
  rw [slice_add, List.prefix_iff_eq_take, eq_comm (a := bs)]
  refine and_iff_right_of_imp fun begins => ?_
  have long := congrArg List.length begins
  rw [List.length_take, List.length_drop] at long
  omega

/-- The tokens begin with different bytes, so a string begins with one of them at most. -/
theorem not_vs_isPrefix_of_vr_isPrefix {bs : List Byte} (vr : tokenBytes .vr <+: bs) : ¬ tokenBytes .vs <+: bs := by
  obtain ⟨rest, rfl⟩ := vr
  simp [tokenBytes, charQuestion, charV]

theorem frameToken_eq_some_iff {frame : List Byte} {off : Nat} {tok : Token} :
    frameToken frame off = some tok ↔ tokenBytes tok <+: frame.drop off := by
  rw [frameToken]
  simp only [slice_eq_iff_isPrefix (bs := tokenBytes .vr) (n := 3) rfl (Nat.succ_pos 2),
    slice_eq_iff_isPrefix (bs := tokenBytes .vs) (n := 2) rfl (Nat.succ_pos 1)]
  split
  next vr => cases tok <;> simp [vr, not_vs_isPrefix_of_vr_isPrefix]
  next noVr =>
    split
    next vs => cases tok <;> simp [noVr, vs]
    next noVs => cases tok <;> simp [noVr, noVs]

theorem exec_decTok_of_isPrefix {off : Byte} {s : State} {tok : Token} (begins : tokenBytes tok <+: s.frame.drop off.toNat) :
    exec (.decTok off) s = .next { s with res := tokenId tok, err := 0 } := by
  simp only [exec, execDecTok, frameToken_eq_some_iff.2 begins]
  rfl

theorem exec_decTok_of_noToken {off : Byte} {s : State} (noToken : ∀ tok, ¬ tokenBytes tok <+: s.frame.drop off.toNat) :
    exec (.decTok off) s = .next { s with err := 3, errs := true } := by
  have notFound : frameToken s.frame off.toNat = none :=
    Option.eq_none_iff_forall_ne_some.2 fun tok found => noToken tok (frameToken_eq_some_iff.1 found)
  simp only [exec, execDecTok, notFound]
  rfl

/-- Settles O45: `frameToken` finds exactly the token that begins at the offset. -/
theorem decodeTokenCommand : Obligations.DecodeTokenCommand := by
  refine ⟨decodeCommand_commandWord 0x33, fun off s vr => ?_, fun off s vs => ?_, fun off s noVr noVs => ?_⟩
  · exact exec_decTok_of_isPrefix (tok := .vr) vr
  · exact exec_decTok_of_isPrefix (tok := .vs) vs
  · refine exec_decTok_of_noToken fun tok => ?_
    cases tok with
    | vr => exact noVr
    | vs => exact noVs

/-! ### The round trip (R114) -/

/-- A rendered value is the field that stands where its digits do. -/
theorem frameField_of_hexN {pre post : List Byte} {off n v : Nat} (lower : Bool) (ha : pre.length = off)
    (fits : v < 16 ^ n) : frameField lower (pre ++ hexN n v ++ post) off n = some v := by
  have inside : ¬ (pre ++ hexN n v ++ post).length < off + n := by
    simp only [List.length_append, hexN_length]
    omega
  rw [frameField, if_neg inside]
  exact unhex_slice_of_hexN lower (List.append_assoc _ _ _) ha rfl fits

/-- An encoder and a decoder of one width are inverse to each other. -/
theorem EncodesDigits.roundTrip {i : Instr} {d : Byte → Instr} {n : Nat} {s : State} (encoder : EncodesDigits i n)
    (decoder : DecodesField d n) (fits : s.opa.toNat < 16 ^ n) (room : s.tx.length + n ≤ s.params.txCap) :
    ∃ t, exec i s = .next t ∧ t.err = 0 ∧
      ∀ (u : State) (before after : List Byte) (off : Byte), before.length = off.toNat →
        u.frame = before ++ t.tx.drop s.tx.length ++ after →
        exec (d off) u = .next { u with res := s.opa, err := 0 } := by
  refine ⟨_, encoder.exec_of_room fits room, rfl, fun u before after off start line => ?_⟩
  have field : frameField u.params.hexLowerOk u.frame off.toNat n = some s.opa.toNat := by
    rw [line, List.drop_left]
    exact frameField_of_hexN _ start fits
  rw [decoder.exec_of_some field, BitVec.ofNat_toNat, BitVec.setWidth_eq]

/-- Settles O46: the three pairs are digit encoders and field decoders of one width. -/
theorem encodeThenDecodeRoundTrip : Obligations.EncodeThenDecodeRoundTrip := by
  intro row mem s
  obtain ⟨encoder, decoder⟩ : EncodesDigits row.1 row.2.2 ∧ DecodesField row.2.1 row.2.2 := by
    fin_cases mem
    · exact ⟨encU8_encodesDigits, decU8_decodesField⟩
    · exact ⟨encU16_encodesDigits, decU16_decodesField⟩
    · exact ⟨encF32_encodesDigits, decF32_decodesField⟩
  exact encoder.roundTrip decoder

end Sys2Proof.Machine
end

section
/-! PROOF. The checksum function: its step bit by bit, its chaining, and what it detects (41_checksum.md R130, R138). -/

namespace Sys2Proof.Machine

/-! ### The step, most significant bit first (R130) -/

/-- One turn of the shift register on the next bit of the byte: the bit meets the top bit of the register. -/
def crcFeed (acc : Half) (bit : Bool) : Half :=
  if acc.getLsbD 15 ^^ bit then (acc <<< 1) ^^^ 0x1021 else acc <<< 1

/-- A turn of R130's loop on a sum: the top bit of `x` is fed to `acc`, and the rest of `x` moves up to be fed later. -/
theorem crcShift_xor (acc x : Half) : crcShift (acc ^^^ x) = crcFeed acc (x.getMsbD 0) ^^^ (x <<< 1) := by
  have top : x.getMsbD 0 = x.getLsbD 15 := BitVec.getMsbD_eq_getLsbD x 0
  rw [crcShift, crcFeed, top, BitVec.getLsbD_xor, BitVec.shiftLeft_xor_distrib]
  split
  · ac_rfl
  · rfl

/-- `n` turns feed the upper `n` bits of `x`, most significant first. -/
theorem crcShifts_xor (n : Nat) (acc x : Half) :
    crcShifts n (acc ^^^ x) = ((List.range n).map x.getMsbD).foldl crcFeed acc ^^^ (x <<< n) := by
  induction n generalizing acc x with
  | zero => simp [crcShifts]
  | succ n ih =>
    have moveUp (k : Nat) : (x <<< 1).getMsbD k = x.getMsbD (k + 1) := BitVec.getMsbD_shiftLeft x 1
    calc crcShifts (n + 1) (acc ^^^ x)
        = crcShifts n (crcFeed acc (x.getMsbD 0) ^^^ (x <<< 1)) := by rw [crcShifts, crcShift_xor]
      _ = ((List.range n).map (x <<< 1).getMsbD).foldl crcFeed (crcFeed acc (x.getMsbD 0)) ^^^ (x <<< 1 <<< n) := ih _ _
      _ = ((List.range (n + 1)).map x.getMsbD).foldl crcFeed acc ^^^ (x <<< (n + 1)) := by
        rw [List.range_succ_eq_map, List.map_cons, List.foldl_cons, List.map_map, ← BitVec.shiftLeft_add,
          Nat.add_comm 1 n, funext moveUp]
        rfl

/-- The bits of a byte at the top of the register, most significant first. -/
theorem map_getMsbD_topByte (b : Byte) :
    (List.range 8).map (b.setWidth 16 <<< 8 : Half).getMsbD = [7, 6, 5, 4, 3, 2, 1, 0].map b.getLsbD := by
  have bit (k : Nat) (hk : k < 8) : (b.setWidth 16 <<< 8 : Half).getMsbD k = b.getLsbD (7 - k) := by
    rw [BitVec.getMsbD_shiftLeft, BitVec.getMsbD_eq_getLsbD, BitVec.getLsbD_setWidth]
    have : 16 - 1 - (k + 8) = 7 - k := by omega
    simp [this, show k + 8 < 16 by omega, show 7 - k < 16 by omega]
  calc (List.range 8).map (b.setWidth 16 <<< 8 : Half).getMsbD
      = (List.range 8).map (fun k => b.getLsbD (7 - k)) := List.map_congr_left fun k hk => bit k (List.mem_range.1 hk)
    _ = [7, 6, 5, 4, 3, 2, 1, 0].map b.getLsbD := rfl

/-- The step leaves nothing of the byte behind: eight turns feed all of its bits. -/
theorem crcStep_eq_foldl_crcFeed (c : Half) (b : Byte) :
    crcStep c b = ([7, 6, 5, 4, 3, 2, 1, 0].map b.getLsbD).foldl crcFeed c := by
  have spent : (b.setWidth 16 <<< 8 <<< 8 : Half) = 0 := by
    rw [← BitVec.shiftLeft_add, BitVec.shiftLeft_eq_zero (by decide)]
    rfl
  rw [crcStep, crcShifts_xor, map_getMsbD_topByte, spent]
  exact BitVec.xor_zero

/-- Settles O25: a turn of the statement's register is `crcFeed` on the bit that `k` names. -/
theorem crcStepIsBitSerial : Obligations.CrcStepIsBitSerial := by
  intro c b
  rw [crcStep_eq_foldl_crcFeed, List.foldl_map]
  rfl

/-! ### Chaining (R138) -/

theorem crc16_append (a b : List Byte) : crc16 (a ++ b) = b.foldl crcStep (crc16 a) := List.foldl_append

/-! ### The checksum after the string (R130) -/

theorem crcShift_of_clear {x : Half} (topClear : x.getMsbD 0 = false) : crcShift x = x <<< 1 := by
  rw [BitVec.getMsbD_eq_getLsbD] at topClear
  exact if_neg (ne_true_of_eq_false topClear)

/-- Turns that meet no set bit at the top only shift. -/
theorem crcShifts_of_clear {n : Nat} {x : Half} (allClear : ∀ k < n, x.getMsbD k = false) : crcShifts n x = x <<< n := by
  induction n generalizing x with
  | zero => simp [crcShifts]
  | succ n ih =>
    have moveUp (k : Nat) (hk : k < n) : (x <<< 1).getMsbD k = false :=
      (BitVec.getMsbD_shiftLeft x 1).trans (allClear (k + 1) (Nat.succ_lt_succ hk))
    rw [crcShifts, crcShift_of_clear (allClear 0 n.succ_pos), ih moveUp, ← BitVec.shiftLeft_add, Nat.add_comm]

/-- Feeding the register its own high byte leaves the low byte, moved up. -/
theorem crcStep_highByte (c : Half) : crcStep c (c.extractLsb' 8 8) = (c.extractLsb' 0 8).setWidth 16 <<< 8 := by
  have cancel : c ^^^ ((c.extractLsb' 8 8).setWidth 16 <<< 8) = (c.extractLsb' 0 8).setWidth 16 := by
    ext i hi
    by_cases low : i < 8
    · simp [low, hi]
    · simp [low, hi, show i - 8 < 8 by omega, show 8 + (i - 8) = i by omega]
  rw [crcStep, cancel]
  refine crcShifts_of_clear fun k hk => ?_
  rw [BitVec.getMsbD_eq_getLsbD, BitVec.getLsbD_setWidth, BitVec.getLsbD_of_ge _ _ (by omega), Bool.and_false,
    Bool.and_false]

/-- Feeding the register its only byte clears it. -/
theorem crcStep_topByte (b : Byte) : crcStep (b.setWidth 16 <<< 8) b = 0 := by
  rw [crcStep, BitVec.xor_self, crcShifts_of_clear fun _ _ => BitVec.getMsbD_zero]
  rfl

/-- Settles O27: the high byte of the checksum leaves only its low byte, and the low byte clears that. -/
theorem checksumResidueIsZero : Obligations.ChecksumResidueIsZero := by
  intro a
  rw [crc16_append, List.foldl_cons, List.foldl_cons, List.foldl_nil, crcStep_highByte, crcStep_topByte]

/-! ### One changed byte (R130) -/

/-- The bit that leaves the register at the top comes back at the bottom, since the polynomial is odd. -/
theorem getLsbD_crcShift_zero (c : Half) : (crcShift c).getLsbD 0 = c.getLsbD 15 := by
  unfold crcShift
  split
  next topSet => simp [topSet]
  next topClear => simp [Bool.eq_false_of_not_eq_true topClear, -BitVec.getLsbD_eq_getElem]

/-- A turn loses nothing: the lowest bit of the result tells whether the polynomial was added. -/
theorem crcShift_injective : Function.Injective crcShift := by
  intro c d same
  have top : c.getLsbD 15 = d.getLsbD 15 := by
    rw [← getLsbD_crcShift_zero c, ← getLsbD_crcShift_zero d, same]
  have shifted : c <<< 1 = d <<< 1 := by
    rw [crcShift, crcShift, top] at same
    split at same
    · exact (BitVec.xor_left_inj _).1 same
    · exact same
  ext i hi
  by_cases last : i = 15
  · subst last
    exact top
  · have moved := congrArg (·.getLsbD (i + 1)) shifted
    simpa [show i + 1 < 16 by omega] using moved

theorem crcShifts_injective (n : Nat) : Function.Injective (crcShifts n) := by
  induction n with
  | zero => exact Function.injective_id
  | succ n ih => exact ih.comp crcShift_injective

theorem crcStep_injective_register (b : Byte) : Function.Injective (crcStep · b) := fun _ _ same =>
  (BitVec.xor_left_inj _).1 (crcShifts_injective 8 same)

theorem crcStep_injective_byte (c : Half) : Function.Injective (crcStep c) := by
  intro x y same
  have aligned : (x.setWidth 16 <<< 8 : Half) = y.setWidth 16 <<< 8 :=
    (BitVec.xor_right_inj c).1 (crcShifts_injective 8 same)
  apply BitVec.eq_of_getLsbD_eq
  intro i hi
  have moved := congrArg (·.getLsbD (i + 8)) aligned
  simpa [show i + 8 < 16 by omega, show i < 16 by omega] using moved

theorem foldl_crcStep_injective (d : List Byte) : Function.Injective (d.foldl crcStep) := by
  induction d with
  | nil => exact Function.injective_id
  | cons b d ih => exact ih.comp (crcStep_injective_register b)

/-- Settles O28: the registers differ after the changed byte, and no later byte makes them equal again. -/
theorem oneByteChangesTheChecksum : Obligations.OneByteChangesTheChecksum := by
  intro a d x y changed same
  rw [crc16_append, crc16_append] at same
  exact changed (crcStep_injective_byte _ (foldl_crcStep_injective d same))

end Sys2Proof.Machine
end

section
/-! PROOF. The checksum commands, the commands without an operand, and who reads the CRC register (41_checksum.md R131 to
R138, 42_assembler.md R150, 43_reader.md R173 to R176, 45_control.md R210). -/

namespace Sys2Proof.Machine

/-! ### Commands without an operand -/

/-- A success writes out as an update: ERR is cleared, ERRS stays (60_exceptions.md R231, R232). -/
theorem commandOk_eq_update (s : State) : commandOk s = .next { s with err := 0 } := rfl

/-- An error writes out as an update: ERR takes its code, ERRS is set (60_exceptions.md R231, R232). -/
theorem raise_eq_update {e : ErrorCode} (isError : setsErrs e = true) (s : State) :
    raise e s = .next { s with err := errorBits e, errs := true } := by
  rw [raise_eq, State.endWith, isError, Bool.true_or]

/-- Settles O29: each command ends, with no check, in its updates and a success, RX_TIMEOUT in Timeout. -/
theorem unconditionalCommands : Obligations.UnconditionalCommands :=
  ⟨⟨rfl, commandOk_eq_update⟩,
    ⟨rfl, fun s => commandOk_eq_update (s.withCrc 0)⟩,
    ⟨rfl, fun s => commandOk_eq_update (s.withTx [])⟩,
    ⟨rfl, fun s => commandOk_eq_update ((s.withRx []).withRxovf false)⟩,
    ⟨rfl, fun s => commandOk_eq_update (s.withClosed true)⟩,
    ⟨rfl, fun s => commandOk_eq_update (s.withClosed false)⟩,
    ⟨rfl, fun s => raise_eq_update (e := .timeout) rfl (s.withRx [])⟩⟩

/-! ### The checksum commands (R131 to R135) -/

theorem exec_crcByte_of_byte {s : State} (fits : s.opa.toNat ≤ 0xFF) :
    exec .crcByte s = .next { s with crc := crcStep s.crc (s.opa.setWidth 8), err := 0 } := by
  rw [BitVec.setWidth_eq_extractLsb' (by decide)]
  exact if_neg (Nat.not_lt.2 fits)

theorem exec_crcByte_of_tooLarge {s : State} (tooLarge : 0xFF < s.opa.toNat) :
    exec .crcByte s = .next { s with err := 1, errs := true } :=
  (if_pos tooLarge).trans (raise_eq_update (e := .encodingError) rfl s)

/-- Settles O30: the check of OPA decides between the two cases. -/
theorem crcByteSteps : Obligations.CrcByteSteps :=
  ⟨rfl, fun _ => exec_crcByte_of_byte, fun _ => exec_crcByte_of_tooLarge⟩

theorem exec_crcFrm_of_inside {n : Byte} {s : State} (inside : n.toNat ≤ s.frame.length) :
    exec (.crcFrm n) s = .next { s with crc := crc16 (s.frame.take n.toNat), err := 0 } :=
  (if_neg (Nat.not_lt.2 inside)).trans (commandOk_eq_update _)

theorem exec_crcFrm_of_outside {n : Byte} {s : State} (outside : s.frame.length < n.toNat) :
    exec (.crcFrm n) s = .next { s with err := 2, errs := true } :=
  (if_pos outside).trans (raise_eq_update (e := .malformedField) rfl s)

/-- Settles O31: CRC_TX has no check, and the check of CRC_FRM is that FRAME has `n` bytes. -/
theorem crcOfBuffers : Obligations.CrcOfBuffers :=
  ⟨rfl, fun s => commandOk_eq_update (s.withCrc (crc16 s.tx)), decodeCommand_commandWord 0x04,
    fun _ _ => exec_crcFrm_of_inside, fun _ _ => exec_crcFrm_of_outside⟩

/-- ENC_CRC as a check for room and its effect: the four digits of the checksum and the checksum itself (R135). -/
theorem execEncCrc_eq (s : State) :
    execEncCrc s = if s.params.txCap < s.tx.length + 4 then raise .txOverflow s
      else commandOk ((s.withTx (s.tx ++ hexN 4 (crc16 s.tx).toNat)).withCrc (crc16 s.tx)) := by
  have outcomes := txAppend_cases (hexN 4 (crc16 s.tx).toNat) s
  rw [hexN_length] at outcomes
  rcases outcomes with ⟨room, append⟩ | ⟨full, append⟩
  · rw [execEncCrc, append, if_neg (Nat.not_lt.2 room)]
  · rw [execEncCrc, append, if_pos full]

theorem exec_encCrc_of_room {s : State} (room : s.tx.length + 4 ≤ s.params.txCap) :
    exec .encCrc s = .next { s with tx := s.tx ++ hexN 4 (crc16 s.tx).toNat, crc := crc16 s.tx, err := 0 } :=
  (execEncCrc_eq s).trans (if_neg (Nat.not_lt.2 room))

theorem exec_encCrc_of_full {s : State} (full : s.params.txCap < s.tx.length + 4) :
    exec .encCrc s = .next { s with err := 9, errs := true } :=
  ((execEncCrc_eq s).trans (if_pos full)).trans (raise_eq_update (e := .txOverflow) rfl s)

/-- Settles O32: the check for four free bytes decides between the two cases. -/
theorem encCrcAppendsTheChecksum : Obligations.EncCrcAppendsTheChecksum :=
  ⟨rfl, fun _ => exec_encCrc_of_room, fun _ => exec_encCrc_of_full⟩

/-! ### A checksum by commands (R138) -/

/-- One operand write and one CRC_BYTE for each byte. -/
def checksumBytes (a : List Byte) : List Instr :=
  a.flatMap fun b => [.busOperandWrite .opa (b.setWidth 32), .crcByte]

theorem runInstrs_cons_of_next {i : Instr} {s t : State} (h : exec i s = .next t) (is : List Instr) :
    runInstrs (i :: is) s = runInstrs is t := by
  rw [runInstrs, h]

theorem runInstrs_checksumBytes_cons (b : Byte) (a : List Byte) (s : State) :
    runInstrs (checksumBytes (b :: a)) s =
      runInstrs (checksumBytes a) { s with opa := b.setWidth 32, crc := crcStep s.crc b, err := 0 } := by
  have fits : (b.setWidth 32 : Word).toNat ≤ 0xFF := by
    rw [BitVec.toNat_setWidth_of_le (by decide)]
    exact Nat.le_of_lt_succ b.isLt
  have byte : (b.setWidth 32 : Word).setWidth 8 = b := by
    rw [BitVec.setWidth_setWidth_of_le _ (by decide), BitVec.setWidth_eq]
  calc runInstrs (checksumBytes (b :: a)) s
      = runInstrs (.crcByte :: checksumBytes a) { s with opa := b.setWidth 32 } := rfl
    _ = runInstrs (checksumBytes a) { s with opa := b.setWidth 32, crc := crcStep s.crc b, err := 0 } := by
      rw [runInstrs_cons_of_next (exec_crcByte_of_byte fits), byte]

/-- From any checksum the bytes' commands continue it as R130 continues it over a string. -/
theorem runInstrs_checksumBytes (a : List Byte) {s : State} (noError : s.err = 0) :
    ∃ t, runInstrs (checksumBytes a) s = some t ∧ t.crc = a.foldl crcStep s.crc ∧ t.err = 0 := by
  induction a generalizing s with
  | nil => exact ⟨s, rfl, rfl, noError⟩
  | cons b a ih =>
    rw [runInstrs_checksumBytes_cons]
    exact ih rfl

/-- Settles O26: CRC_CLR leaves the checksum of the empty string, and the bytes' commands continue it. -/
theorem checksumChaining : Obligations.ChecksumChaining :=
  ⟨crc16_append, crc16_nil, fun a s => runInstrs_checksumBytes a (s := (s.withCrc 0).endWith .ok) rfl⟩

/-! ### Who reads the CRC register (R137) -/

/-- `CrcBlind s c o o'`: from outcome `o` of a command in `s` to its outcome `o'` with `c` in the CRC register, nothing
changes but a CRC that the command left alone. -/
inductive CrcBlind (s : State) (c : Half) : Result → Result → Prop
  | overwrites (t : State) : CrcBlind s c (.next t) (.next t)
  | keeps {t : State} (kept : t.crc = s.crc) : CrcBlind s c (.next t) (.next (t.withCrc c))

section
variable {s : State} {c : Half}

theorem CrcBlind.of_raise (e : ErrorCode) : CrcBlind s c (raise e s) (raise e (s.withCrc c)) := .keeps rfl

/-- A check of the operands before the rest of a command. -/
theorem CrcBlind.of_guard {p : Prop} [Decidable p] {o o' : Result} (e : ErrorCode) (rest : CrcBlind s c o o') :
    CrcBlind s c (if p then raise e s else o) (if p then raise e (s.withCrc c) else o') := by
  split
  · exact .of_raise e
  · exact rest

theorem appendCommand_crcBlind (bs : List Byte) : CrcBlind s c (appendCommand bs s) (appendCommand bs (s.withCrc c)) := by
  unfold appendCommand txAppend
  rw [State.withCrc_params, State.withCrc_tx]
  split
  · exact .of_raise .txOverflow
  · exact .keeps rfl

theorem decodeField_crcBlind (off : Byte) (w : Nat) :
    CrcBlind s c (decodeField off w s) (decodeField off w (s.withCrc c)) := by
  unfold decodeField
  rw [State.withCrc_params, State.withCrc_frame]
  split
  · exact .of_raise .malformedField
  · exact .keeps rfl

theorem assemble_crcBlind (body : List Byte) : CrcBlind s c (assemble body s) (assemble body (s.withCrc c)) := by
  have sameRange : rangeOk (s.withCrc c) = rangeOk s := rfl
  unfold assemble
  rw [sameRange]
  split
  · exact .overwrites _
  · exact .of_raise .encodingError

theorem execEncCrc_crcBlind : CrcBlind s c (execEncCrc s) (execEncCrc (s.withCrc c)) := by
  rw [execEncCrc_eq, execEncCrc_eq]
  exact .of_guard .txOverflow (.overwrites _)

theorem execDecTok_crcBlind (off : Byte) : CrcBlind s c (execDecTok off s) (execDecTok off (s.withCrc c)) := by
  unfold execDecTok
  rw [State.withCrc_frame]
  split
  · exact .keeps rfl
  · exact .of_raise .unknownCommand

theorem execRxPop_crcBlind : CrcBlind s c (execRxPop s) (execRxPop (s.withCrc c)) := by
  unfold execRxPop
  rw [State.withCrc_rx, State.withCrc_closed]
  split
  · exact .keeps rfl
  · exact .of_guard .connectionClosed (.of_raise .wouldBlock)

theorem execRspF32_crcBlind : CrcBlind s c (execRspF32 s) (execRspF32 (s.withCrc c)) := by
  unfold execRspF32
  rw [State.withCrc_params, State.withCrc_frame]
  split
  · exact .of_raise _
  · exact .overwrites _

theorem execRspU16_crcBlind : CrcBlind s c (execRspU16 s) (execRspU16 (s.withCrc c)) := by
  unfold execRspU16
  rw [State.withCrc_params, State.withCrc_frame]
  split
  · exact .of_raise _
  · exact .overwrites _

/-- No command but CRC_BYTE reads the CRC register. -/
theorem exec_crcBlind {i : Instr} (command : isCommand i = true) (notByte : i ≠ .crcByte) :
    CrcBlind s c (exec i s) (exec i (s.withCrc c)) := by
  cases i with
  | crcByte => exact absurd rfl notByte
  | nop | txClr | rxFlush | rxClose | rxOpen | rxTimeout => exact .keeps rfl
  | crcClr | crcTx => exact .overwrites _
  | crcFrm n => exact .of_guard .malformedField (.overwrites _)
  | txCtl _ | encF32 | encTok _ | encTerm => exact appendCommand_crcBlind _
  | encU8 | encU16 => exact .of_guard .encodingError (appendCommand_crcBlind _)
  | encCrc => exact execEncCrc_crcBlind
  | asmVr | asmVs => exact assemble_crcBlind _
  | rxPop => exact execRxPop_crcBlind
  | decU8 off | decU16 off | decF32 off => exact decodeField_crcBlind off _
  | decTok off => exact execDecTok_crcBlind off
  | rspF32 => exact execRspF32_crcBlind
  | rspU16 => exact execRspU16_crcBlind
  | busCmdWrite _ | busOperandWrite _ _ | busStatusWrite _ | busRead _ | busRxdataWrite _ => cases command

end

/-- Settles O21: the two ways to be blind to the CRC register are the statement's two cases. -/
theorem onlyCrcByteReadsTheCrcRegister : Obligations.OnlyCrcByteReadsTheCrcRegister := by
  intro i s t c command notByte done
  have blind : CrcBlind s c (exec i s) (exec i { s with crc := c }) := exec_crcBlind command notByte
  rw [done] at blind
  generalize exec i { s with crc := c } = o at blind
  cases blind with
  | overwrites => exact .inl rfl
  | keeps kept => exact .inr ⟨kept, rfl⟩

end Sys2Proof.Machine
end

section
/-! PROOF. The assembler's frames, and the same frames by primitives (42_assembler.md R150 to R158). -/

namespace Sys2Proof.Machine

/-! ### The two outcomes (R153 to R156) -/

/-- The range check as bounds on the four operands it reads (R153). -/
theorem rangeOk_iff (s : State) :
    rangeOk s = true ↔
      s.addr.toNat ≤ 0xFF ∧ s.seq.toNat ≤ 0xFFFF ∧ s.param.toNat ≤ 0xFFFF ∧ s.inst.toNat ≤ 0xFF := by
  simp only [rangeOk, Bool.and_eq_true, decide_eq_true_eq, and_assoc]

theorem assemble_of_rangeOk {s : State} (inRange : rangeOk s = true) (body : List Byte) :
    assemble body s = .next { s with tx := frameOf body, crc := crc16 body, err := 0 } :=
  (if_pos inRange).trans (commandOk_eq_update _)

theorem assemble_of_not_rangeOk {s : State} (outOfRange : ¬ rangeOk s = true) (body : List Byte) :
    assemble body s = .next { s with err := 1, errs := true } :=
  (if_neg outOfRange).trans (raise_eq_update (e := .encodingError) rfl s)

/-- In range, the frame is 5 bytes longer than its body: the checksum and the terminator (R154). -/
theorem assemble_builds {s : State} {body : List Byte} {n : Nat} (inRange : rangeOk s = true) (length : body.length = n) :
    assemble body s = .next { s with tx := frameOf body, crc := crc16 body, err := 0 } ∧ (frameOf body).length = n + 5 :=
  ⟨assemble_of_rangeOk inRange body, length ▸ frameOf_length body⟩

/-- Settles O36: the range check decides, and the body is the request body with the token `?VR`. -/
theorem asmVrBuildsTheReadFrame : Obligations.AsmVrBuildsTheReadFrame := by
  refine ⟨rfl, fun s body inRange isBody => ?_, fun s outOfRange => ?_⟩
  · subst isBody
    exact assemble_builds (body := requestBody .vr s) ((rangeOk_iff s).2 inRange) (requestBody_length .vr s)
  · exact assemble_of_not_rangeOk (outOfRange ∘ (rangeOk_iff s).1) _

/-- ASM_VS adds the 8 digits of VALUE to the request body (R156). -/
theorem setBody_length (s : State) : (requestBody .vs s ++ hexN 8 s.value.toNat).length = 23 := by
  rw [List.length_append, requestBody_length, hexN_length]
  rfl

/-- Settles O37: as O36, with the token `VS` and the value after the request body. -/
theorem asmVsBuildsTheSetFrame : Obligations.AsmVsBuildsTheSetFrame := by
  refine ⟨rfl, fun s body inRange isBody => ?_, fun s outOfRange => ?_⟩
  · subst isBody
    exact assemble_builds (body := requestBody .vs s ++ hexN 8 s.value.toNat) ((rangeOk_iff s).2 inRange)
      (setBody_length s)
  · exact assemble_of_not_rangeOk (outOfRange ∘ (rangeOk_iff s).1) _

/-! ### The terminator (R157) -/

theorem charCR_not_mem_hexN (n v : Nat) : charCR ∉ hexN n v := by
  intro mem
  obtain ⟨d, isDigit, isCR⟩ := mem_hexN mem
  exact hexDigit_ne_cr d isDigit isCR

theorem charCR_not_mem_requestBody (tok : Token) (s : State) : charCR ∉ requestBody tok s := by
  have control : charCR ∉ [charHash] := by decide
  have token : charCR ∉ tokenBytes tok := by cases tok <;> decide
  simp only [requestBody, List.mem_append, charCR_not_mem_hexN, control, token, or_self, not_false_eq_true]

/-- A byte put after a string without it stands at the last index only. -/
theorem getD_append_singleton_eq_iff {bs : List Byte} {b : Byte} (fresh : b ∉ bs) {k : Nat} (inside : k < bs.length + 1)
    (d : Byte) : (bs ++ [b]).getD k d = b ↔ k = bs.length := by
  rcases Nat.lt_succ_iff_lt_or_eq.1 inside with before | rfl
  · have other : bs[k] ≠ b := fun same => fresh (same ▸ List.getElem_mem before)
    rw [List.getD_append _ _ _ _ before, List.getD_eq_getElem _ _ before]
    exact iff_of_false other before.ne
  · simp

theorem frameOf_getD_eq_cr_iff {body : List Byte} (fresh : charCR ∉ body) {k : Nat} (inside : k < body.length + 5) :
    (frameOf body).getD k 0 = charCR ↔ k = body.length + 4 := by
  have freshSum : charCR ∉ body ++ hexN 4 (crc16 body).toNat := by
    simp only [List.mem_append, fresh, charCR_not_mem_hexN, or_self, not_false_eq_true]
  have length : (body ++ hexN 4 (crc16 body).toNat).length = body.length + 4 := by
    rw [List.length_append, hexN_length]
  rw [frameOf, getD_append_singleton_eq_iff freshSum (length ▸ inside), length]

/-- An assembly that ends with code 0 was in range, so TX holds the frame. -/
theorem tx_of_assemble {body : List Byte} {s t : State} (done : assemble body s = .next t) (success : t.err = 0) :
    t.tx = frameOf body := by
  rcases assemble_cases body s with ⟨-, assembled⟩ | ⟨-, failed⟩
  · rw [assembled] at done
    cases done
    rfl
  · rw [failed] at done
    cases done
    cases success

theorem terminator_last_of_assemble {body : List Byte} {s t : State} {n : Nat} (fresh : charCR ∉ body)
    (length : body.length = n) (done : assemble body s = .next t) (success : t.err = 0) :
    t.tx.length = n + 5 ∧ ∀ k, k < n + 5 → (t.tx.getD k 0 = charCR ↔ k = n + 4) := by
  subst length
  rw [tx_of_assemble done success]
  exact ⟨frameOf_length body, fun _ => frameOf_getD_eq_cr_iff fresh⟩

/-- Settles O38: neither body holds the terminator, and a frame adds it after the checksum. -/
theorem assembledFramesEndInTheOnlyTerminator : Obligations.AssembledFramesEndInTheOnlyTerminator := by
  intro s t success
  have freshSet : charCR ∉ requestBody .vs s ++ hexN 8 s.value.toNat := by
    simp only [List.mem_append, charCR_not_mem_requestBody, charCR_not_mem_hexN, or_self, not_false_eq_true]
  exact ⟨fun done => terminator_last_of_assemble (charCR_not_mem_requestBody .vr s) (requestBody_length .vr s) done success,
    fun done => terminator_last_of_assemble freshSet (setBody_length s) done success⟩

/-! ### The same frames by primitives (R158) -/

/-- `s` with a frame under construction: OPA holds the operand last written, TX the bytes so far, and the last command ended
with code 0. -/
def State.building (s : State) (o : Word) (bs : List Byte) : State := { s with opa := o, tx := bs, err := 0 }

section
variable {s : State} {bs : List Byte}

/-- TX_CLR begins a frame (R150). -/
theorem runInstrs_txClr (is : List Instr) : runInstrs (.txClr :: is) s = runInstrs is (s.building s.opa []) := rfl

/-- A command that appends fixed bytes lengthens the frame under construction by them. -/
theorem runInstrs_building_append {i : Instr} {new : List Byte} (append : ∀ u, exec i u = appendCommand new u) (o : Word)
    (room : bs.length + new.length ≤ s.params.txCap) (is : List Instr) :
    runInstrs (i :: is) (s.building o bs) = runInstrs is (s.building o (bs ++ new)) :=
  runInstrs_cons_of_next ((append _).trans (appendCommand_of_room room)) is

/-- An operand written to OPA and encoded lengthens the frame under construction by its digits. -/
theorem runInstrs_building_encode {i : Instr} {n : Nat} (encoder : EncodesDigits i n) (o : Word) {v : Word}
    (fits : v.toNat < 16 ^ n) (room : bs.length + n ≤ s.params.txCap) (is : List Instr) :
    runInstrs (.busOperandWrite .opa v :: i :: is) (s.building o bs) =
      runInstrs is (s.building v (bs ++ hexN n v.toNat)) :=
  runInstrs_cons_of_next (encoder.exec_of_room (s := s.building v bs) fits room) is

/-- ENC_CRC and ENC_TERM make the frame of the body they find in TX (R154). -/
theorem runInstrs_building_close (o : Word) (room : bs.length + 5 ≤ s.params.txCap) :
    runInstrs [.encCrc, .encTerm] (s.building o bs) = some ((s.withCrc (crc16 bs)).building o (frameOf bs)) := by
  have roomForCR : (bs ++ hexN 4 (crc16 bs).toNat).length + 1 ≤ s.params.txCap := by
    rw [List.length_append, hexN_length]
    exact room
  calc runInstrs [.encCrc, .encTerm] (s.building o bs)
    _ = runInstrs [.encTerm] ((s.withCrc (crc16 bs)).building o (bs ++ hexN 4 (crc16 bs).toNat)) :=
      runInstrs_cons_of_next (exec_encCrc_of_room (s := s.building o bs) (Nat.le_of_succ_le room)) _
    _ = some ((s.withCrc (crc16 bs)).building o (frameOf bs)) :=
      runInstrs_building_append (s := s.withCrc (crc16 bs)) (fun _ => rfl) o roomForCR []

end

/-- The primitives both sequences begin with: up to the digits of INST. -/
def requestPrimitives (tok : Token) (s : State) : List Instr :=
  [.txClr, .txCtl .host, .busOperandWrite .opa s.addr, .encU8, .busOperandWrite .opa s.seq, .encU16, .encTok tok,
    .busOperandWrite .opa s.param, .encU16, .busOperandWrite .opa s.inst, .encU8]

/-- They leave the request body in TX. -/
theorem runInstrs_requestPrimitives {s : State} (tok : Token) (legal : s.params.legal = true) (inRange : rangeOk s = true)
    (is : List Instr) :
    runInstrs (requestPrimitives tok s ++ is) s = runInstrs is (s.building s.inst (requestBody tok s)) := by
  obtain ⟨-, cap, -⟩ := (params_legal_iff _).1 legal
  obtain ⟨addr, seq, param, inst⟩ := (rangeOk_iff s).1 inRange
  have token : (tokenBytes tok).length ≤ 3 := by cases tok <;> decide
  simp only [requestPrimitives, List.cons_append, List.nil_append]
  rw [runInstrs_txClr, runInstrs_building_append (fun _ => rfl),
    runInstrs_building_encode encU8_encodesDigits _ (Nat.lt_succ_of_le addr),
    runInstrs_building_encode encU16_encodesDigits _ (Nat.lt_succ_of_le seq), runInstrs_building_append (fun _ => rfl),
    runInstrs_building_encode encU16_encodesDigits _ (Nat.lt_succ_of_le param),
    runInstrs_building_encode encU8_encodesDigits _ (Nat.lt_succ_of_le inst)]
  · rfl
  all_goals
    simp only [List.length_append, hexN_length, List.length_singleton, List.length_nil]
    omega

/-- Settles O39: both sequences leave the body in TX, OPA holds the operand encoded last, and ENC_CRC and ENC_TERM make the
frame; TX has room for 28 bytes. -/
theorem assemblerEqualsThePrimitives : Obligations.AssemblerEqualsThePrimitives := by
  refine ⟨fun s legal inRange => ⟨_, assemble_of_rangeOk inRange (requestBody .vr s), ?_⟩,
    fun s legal inRange => ⟨_, assemble_of_rangeOk inRange (requestBody .vs s ++ hexN 8 s.value.toNat), ?_⟩⟩
  all_goals obtain ⟨-, cap, -⟩ := (params_legal_iff _).1 legal
  · have room : (requestBody .vr s).length + 5 ≤ s.params.txCap := by
      have length : (requestBody .vr s).length = 16 := requestBody_length .vr s
      omega
    calc runInstrs (requestPrimitives .vr s ++ [.encCrc, .encTerm]) s
      _ = runInstrs [.encCrc, .encTerm] (s.building s.inst (requestBody .vr s)) :=
        runInstrs_requestPrimitives .vr legal inRange _
      _ = _ := runInstrs_building_close s.inst room
  · have room : (requestBody .vs s ++ hexN 8 s.value.toNat).length + 5 ≤ s.params.txCap := by
      rw [setBody_length]
      exact cap
    have roomForValue : (requestBody .vs s).length + 8 ≤ s.params.txCap := by
      have length : (requestBody .vs s).length = 15 := requestBody_length .vs s
      omega
    calc runInstrs (requestPrimitives .vs s ++ [.busOperandWrite .opa s.value, .encF32, .encCrc, .encTerm]) s
      _ = runInstrs [.busOperandWrite .opa s.value, .encF32, .encCrc, .encTerm] (s.building s.inst (requestBody .vs s)) :=
        runInstrs_requestPrimitives .vs legal inRange _
      _ = runInstrs [.encCrc, .encTerm] (s.building s.value (requestBody .vs s ++ hexN 8 s.value.toNat)) :=
        runInstrs_building_encode encF32_encodesDigits s.inst s.value.isLt roomForValue _
      _ = _ := runInstrs_building_close s.value room

end Sys2Proof.Machine
end

section
/-! PROOF. The frame reader: the push, RX_POP, and the bytes from one to the other (43_reader.md R171, R172, R177, R178). -/

namespace Sys2Proof.Machine

/-! ### The push (R171, R215) -/

theorem exec_busRxdataWrite_of_room {s : State} (room : s.rx.length < s.params.rxCap) (w : Word) :
    exec (.busRxdataWrite w) s = .next { s with rx := s.rx ++ [w.setWidth 8] } := by
  rw [BitVec.setWidth_eq_extractLsb' (by decide)]
  exact congrArg Host.Outcome.next (if_pos room)

theorem exec_busRxdataWrite_of_full {s : State} (full : s.params.rxCap ≤ s.rx.length) (w : Word) :
    exec (.busRxdataWrite w) s = .next { s with rxovf := true } :=
  congrArg Host.Outcome.next (if_neg (Nat.not_lt.2 full))

/-- Settles O40: the room in RX decides between the two cases, and offset 0x040 is RXDATA's. -/
theorem rxdataPush : Obligations.RxdataPush :=
  ⟨fun _ w room => exec_busRxdataWrite_of_room room w, fun _ w full => exec_busRxdataWrite_of_full full w,
    fun base w => decodeAccess_write base (by decide) rfl w⟩

/-- The writes to RXDATA that push a byte string. -/
def pushes (bs : List Byte) : List Instr := bs.map fun b => .busRxdataWrite (b.setWidth 32)

/-- With room for all of them, pushed bytes follow what RX held. -/
theorem runInstrs_pushes_append (bs : List Byte) {s : State} (room : s.rx.length + bs.length ≤ s.params.rxCap)
    (is : List Instr) : runInstrs (pushes bs ++ is) s = runInstrs is (s.withRx (s.rx ++ bs)) := by
  induction bs generalizing s with
  | nil =>
    rw [List.append_nil]
    rfl
  | cons b bs ih =>
    rw [List.length_cons] at room
    have roomForRest : (s.rx ++ [b]).length + bs.length ≤ s.params.rxCap := by
      rw [List.length_append, List.length_singleton]
      omega
    calc runInstrs (pushes (b :: bs) ++ is) s
      _ = runInstrs (pushes bs ++ is) (s.withRx (s.rx ++ [(b.setWidth 32 : Word).setWidth 8])) :=
        runInstrs_cons_of_next (exec_busRxdataWrite_of_room (by omega) _) _
      _ = runInstrs (pushes bs ++ is) (s.withRx (s.rx ++ [b])) := by
        rw [BitVec.setWidth_setWidth_of_le _ (by decide), BitVec.setWidth_eq]
      _ = runInstrs is (s.withRx (s.rx ++ [b] ++ bs)) := ih roomForRest
      _ = runInstrs is (s.withRx (s.rx ++ b :: bs)) := by rw [List.append_assoc, List.singleton_append]

/-! ### RX_POP (R172) -/

/-- The split of `splitAtCR_some` is the only one. -/
theorem splitAtCR_append_charCR {line : List Byte} (fresh : charCR ∉ line) (rest : List Byte) :
    splitAtCR (line ++ charCR :: rest) = some (line, rest) := by
  induction line with
  | nil => rfl
  | cons c cs ih =>
    obtain ⟨other, freshTail⟩ := not_or.1 (List.mem_cons.not.1 fresh)
    rw [List.cons_append, splitAtCR, if_neg (Ne.symm other), ih freshTail]

theorem exec_rxPop_of_line {s : State} {line rest : List Byte} (fresh : charCR ∉ line)
    (holds : s.rx = line ++ charCR :: rest) :
    exec .rxPop s = .next { s with frame := line, rx := rest, fvalid := true, err := 0 } := by
  have split : splitAtCR s.rx = some (line, rest) := holds ▸ splitAtCR_append_charCR fresh rest
  simp only [exec, execRxPop, split]
  exact commandOk_eq_update _

/-- Without a terminator nothing is taken out of RX; CLOSED decides how the command ends. -/
theorem exec_rxPop_of_noLine {s : State} (noLine : charCR ∉ s.rx) :
    exec .rxPop s = raise (if s.closed = true then .connectionClosed else .wouldBlock) s := by
  simp only [exec, execRxPop, (splitAtCR_none_iff s.rx).2 noLine]
  exact (apply_ite (raise · s) _ _ _).symm

theorem exec_rxPop_of_closed {s : State} (noLine : charCR ∉ s.rx) (closed : s.closed = true) :
    exec .rxPop s = .next { s with err := 6, errs := true } := by
  rw [exec_rxPop_of_noLine noLine, if_pos closed]
  exact raise_eq_update rfl s

theorem exec_rxPop_of_open {s : State} (noLine : charCR ∉ s.rx) (isOpen : s.closed = false) :
    exec .rxPop s = .next { s with err := 10 } := by
  rw [exec_rxPop_of_noLine noLine, if_neg (Bool.eq_false_iff.1 isOpen)]
  rfl

/-- Settles O41: a terminator in RX decides whether there is a line, and CLOSED how the command ends without one. -/
theorem rxPopExtractsTheFirstLine : Obligations.RxPopExtractsTheFirstLine :=
  ⟨rfl, fun _ _ _ => exec_rxPop_of_line, fun _ => exec_rxPop_of_closed, fun _ => exec_rxPop_of_open⟩

/-- Settles O42: the first pop leaves the second line in RX; the pushes complete the line that RX_POP did not find. -/
theorem frameLinesComeOutInOrder : Obligations.FrameLinesComeOutInOrder := by
  refine ⟨fun s a b freshA freshB holds => ?twoLines, fun s c freshRx freshC isOpen room => ?completed⟩
  case twoLines =>
    exact ⟨_, _, exec_rxPop_of_line freshA holds, rfl, exec_rxPop_of_line freshB rfl, rfl, rfl⟩
  case completed =>
    refine ⟨exec_rxPop_of_open freshRx isOpen, ?_⟩
    have fresh : charCR ∉ s.rx ++ c := List.not_mem_append freshRx freshC
    have holds : (s.withRx (s.rx ++ (c ++ [charCR]))).rx = (s.rx ++ c) ++ charCR :: [] := (List.append_assoc ..).symm
    have roomForLine : s.rx.length + (c ++ [charCR]).length ≤ s.params.rxCap := by
      rw [List.length_append]
      exact room
    calc runInstrs (pushes (c ++ [charCR]) ++ [.rxPop]) s
      _ = runInstrs [.rxPop] (s.withRx (s.rx ++ (c ++ [charCR]))) := runInstrs_pushes_append _ roomForLine _
      _ = _ := runInstrs_cons_of_next (exec_rxPop_of_line fresh holds) []

/-! ### The bytes through the reader (R178) -/

/-- A performed command runs as it does when it is the instruction itself (45_control.md R211). -/
theorem exec_of_performed {i j : Instr} (h : performed i = some j) (s : State) : exec i s = exec j s := by
  cases i with
  | busCmdWrite w =>
    cases decoded : decodeCommand w with
    | ok k =>
      simp only [performed, decoded, Option.some.injEq] at h
      exact h ▸ exec_busCmdWrite_of_ok decoded s
    | error _ => simp [performed, decoded] at h
  | _ => cases h; rfl

/-- Only a push adds to RX. -/
theorem acceptedBytes_eq_nil {i : Instr} (noPush : ¬ ∃ w, i = .busRxdataWrite w) (s : State) : acceptedBytes s i = [] := by
  cases i with
  | busRxdataWrite w => exact absurd ⟨w, rfl⟩ noPush
  | _ => rfl

/-- A pop takes out of RX exactly the bytes it delivers. -/
theorem deliveredBytes_append_rx_of_pop {i : Instr} {s t : State} (popped : performed i = some .rxPop)
    (h : exec i s = .next t) : deliveredBytes i t ++ t.rx = s.rx := by
  rw [exec_of_performed popped] at h
  cases split : splitAtCR s.rx with
  | some p =>
    obtain ⟨holds, fresh⟩ := splitAtCR_some (line := p.1) (rest := p.2) split
    cases (exec_rxPop_of_line fresh holds).symm.trans h
    rw [deliveredBytes, if_pos ⟨popped, rfl⟩, holds, List.append_assoc, List.singleton_append]
  | none =>
    cases (exec_rxPop_of_noLine ((splitAtCR_none_iff _).1 split)).symm.trans h
    have failed : (if s.closed = true then .connectionClosed else .wouldBlock) ≠ ErrorCode.ok := by
      split <;> nofun
    exact congrArg (· ++ s.rx) (if_neg fun success => failed ((errorBits_eq_zero_iff _).1 success.2))

/-- A push adds to RX exactly the byte it accepts, if any. -/
theorem rx_of_push {w : Word} {s t : State} (h : exec (.busRxdataWrite w) s = .next t) :
    t.rx = s.rx ++ acceptedBytes s (.busRxdataWrite w) := by
  cases h
  rcases pushByte_cases (w.extractLsb' 0 8) s with ⟨room, pushed⟩ | ⟨full, dropped⟩
  · rw [pushed, acceptedBytes, if_pos room]
    rfl
  · rw [dropped, acceptedBytes, if_neg (Nat.not_lt.2 full), List.append_nil]
    rfl

/-- One instruction, other than the two that drop what RX holds, passes its bytes on in order. -/
theorem deliveredBytes_append_rx {i : Instr} {s t : State}
    (keeps : performed i ≠ some .rxFlush ∧ performed i ≠ some .rxTimeout) (h : exec i s = .next t) :
    deliveredBytes i t ++ t.rx = s.rx ++ acceptedBytes s i := by
  by_cases popped : performed i = some .rxPop
  · have noPush : ¬ ∃ w, i = .busRxdataWrite w := by
      rintro ⟨w, rfl⟩
      cases popped
    rw [deliveredBytes_append_rx_of_pop popped h, acceptedBytes_eq_nil noPush, List.append_nil]
  · have noDelivery : deliveredBytes i t = [] := if_neg fun success => popped success.1
    rw [noDelivery, List.nil_append]
    by_cases push : ∃ w, i = .busRxdataWrite w
    · obtain ⟨w, rfl⟩ := push
      exact rx_of_push h
    · rw [acceptedBytes_eq_nil push, List.append_nil]
      obtain ⟨-, rxWriters, -⟩ := bufferWriters i s t h
      by_contra changed
      simpa [popped, push, keeps] using rxWriters changed

/-- A trace that reaches its end is that of its first instruction and that of the rest. -/
theorem readerTrace_cons_eq_some {i : Instr} {is : List Instr} {s u : State} {acc del : List Byte}
    (h : readerTrace (i :: is) s = some (u, acc, del)) :
    ∃ t acc' del', exec i s = .next t ∧ readerTrace is t = some (u, acc', del') ∧
      acc = acceptedBytes s i ++ acc' ∧ del = deliveredBytes i t ++ del' := by
  rw [readerTrace] at h
  split at h
  case h_1 | h_2 => cases h
  case h_3 t next =>
    split at h
    case h_1 => cases h
    case h_2 v acc' del' rest =>
      cases h
      exact ⟨t, acc', del', next, rest, rfl, rfl⟩

/-- Settles O43, by induction on the run: what the first instruction leaves in RX is where the rest of the run begins. -/
theorem pushedBytesLeaveInOrder : Obligations.PushedBytesLeaveInOrder := by
  intro is
  induction is with
  | nil =>
    intro s u acc del _ h
    cases h
    exact (List.append_nil _).symm
  | cons i is ih =>
    intro s u acc del keeps h
    obtain ⟨keepsFirst, keepsRest⟩ := List.forall_mem_cons.1 keeps
    obtain ⟨t, acc', del', next, rest, rfl, rfl⟩ := readerTrace_cons_eq_some h
    calc deliveredBytes i t ++ del' ++ u.rx
      _ = deliveredBytes i t ++ (t.rx ++ acc') := by rw [List.append_assoc, ih t u acc' del' keepsRest rest]
      _ = s.rx ++ acceptedBytes s i ++ acc' := by rw [← List.append_assoc, deliveredBytes_append_rx keepsFirst next]
      _ = s.rx ++ (acceptedBytes s i ++ acc') := List.append_assoc ..

end Sys2Proof.Machine
end

section
/-! PROOF. The checks of the response parser in their order, and what the response commands make of them (44_response.md R191
to R196). -/

namespace Sys2Proof.Machine

/-! ### The value of a fixed number of hex digits (00_scope.md R12) -/

theorem nib_lt {lower : Bool} {c : Byte} {d : Nat} (h : nib lower c = some d) : d < 16 := by
  unfold nib at h
  split_ifs at h <;> cases h <;> omega

/-- Each digit read multiplies the bound by 16. -/
theorem unhexFrom_lt {lower : Bool} {acc v : Nat} {s : List Byte} (h : unhexFrom lower acc s = some v) :
    v < (acc + 1) * 16 ^ s.length := by
  induction s generalizing acc with
  | nil =>
    cases h
    simp
  | cons c cs ih =>
    obtain ⟨d, digit, rest⟩ := Option.bind_eq_some_iff.1 (unhexFrom_cons lower acc c cs ▸ h)
    have digitLt : d < 16 := nib_lt digit
    calc v
      _ < (acc * 16 + d + 1) * 16 ^ cs.length := ih rest
      _ ≤ (acc + 1) * 16 * 16 ^ cs.length := Nat.mul_le_mul_right _ (by omega)
      _ = (acc + 1) * 16 ^ (c :: cs).length := by rw [List.length_cons, Nat.pow_succ', Nat.mul_assoc]

theorem unhex_slice_lt {lower : Bool} {s : List Byte} {a n v : Nat} (h : unhex lower (slice s a (a + n)) = some v) :
    v < 16 ^ n := by
  have short : (slice s a (a + n)).length ≤ n := slice_add s a n ▸ List.length_take_le ..
  calc v
    _ < (0 + 1) * 16 ^ (slice s a (a + n)).length := unhexFrom_lt h
    _ = 16 ^ (slice s a (a + n)).length := Nat.one_mul _
    _ ≤ 16 ^ n := Nat.pow_le_pow_right (by decide) short

/-! ### The first check that fails (R191) -/

/-- The control byte as the parser reads it, in a line that has one. -/
theorem head?_eq_some_iff_getD {bs : List Byte} (nonempty : 0 < bs.length) (b d : Byte) :
    bs.head? = some b ↔ bs.getD 0 d = b := by
  cases bs with
  | nil => cases nonempty
  | cons c cs => simp

section
variable {p : Params} {frame : List Byte}

theorem parseResponse_of_short (short : frame.length < 7) : parseResponse p frame = .error .malformedField := if_pos short

theorem parseResponse_of_otherControl (header : 7 ≤ frame.length)
    (other : p.strictControl = true ∧ frame.getD 0 0 ≠ charBang) : parseResponse p frame = .error .malformedField := by
  rw [parseResponse, if_neg (Nat.not_lt.2 header), if_pos other]

/-- Past the length and the control byte, both header fields must be hex. -/
theorem parseResponse_of_noHexHeader (header : 7 ≤ frame.length)
    (control : p.strictControl = true → frame.getD 0 0 = charBang)
    (noHex : unhex p.hexLowerOk (slice frame 1 3) = none ∨ unhex p.hexLowerOk (slice frame 3 7) = none) :
    parseResponse p frame = .error .malformedField := by
  rw [parseResponse, if_neg (Nat.not_lt.2 header), if_neg fun ⟨strict, other⟩ => other (control strict)]
  split
  next addr seq => simp [addr, seq] at noHex
  next => rfl

theorem parseResponse_of_noValue {a q : Nat} (header : 7 ≤ frame.length)
    (control : p.strictControl = true → frame.getD 0 0 = charBang)
    (addr : unhex p.hexLowerOk (slice frame 1 3) = some a) (seq : unhex p.hexLowerOk (slice frame 3 7) = some q)
    (noValue : frame.length - 7 < 12) : parseResponse p frame = .error .unexpectedResponseValue := by
  rw [parseResponse, if_neg (Nat.not_lt.2 header), if_neg fun ⟨strict, other⟩ => other (control strict), addr, seq]
  exact if_pos noValue

variable {lower : Bool} {c : Nat} (ctl : Byte) (a q : Nat)

theorem parseTail_of_noHexChecksum (noHex : unhex lower (slice frame (frame.length - 4) frame.length) = none) :
    parseTail lower frame ctl a q = .error .malformedField := by
  rw [parseTail, noHex]

theorem parseTail_of_mismatch (field : unhex lower (slice frame (frame.length - 4) frame.length) = some c)
    (mismatch : (crc16 (slice frame 0 (frame.length - 4))).toNat ≠ c) :
    parseTail lower frame ctl a q = .error .checksumMismatch := by
  rw [parseTail, field]
  exact if_pos mismatch

theorem parseTail_of_noHexValue (field : unhex lower (slice frame (frame.length - 4) frame.length) = some c)
    (sum : (crc16 (slice frame 0 (frame.length - 4))).toNat = c) (noHex : unhex lower (slice frame 7 15) = none) :
    parseTail lower frame ctl a q = .error .malformedField := by
  simp only [parseTail, field, sum, noHex, ne_eq, not_true_eq_false, if_false]

end

/-! ### What the response commands make of the parse (R195, R196) -/

theorem setsErrs_of_parseError {p : Params} {frame : List Byte} {e : ErrorCode} (h : parseResponse p frame = .error e) :
    setsErrs e = true := by
  rcases parseResponse_error h with rfl | rfl | rfl <;> rfl

theorem errorBits_ne_zero_of_parseError {p : Params} {frame : List Byte} {e : ErrorCode}
    (h : parseResponse p frame = .error e) : errorBits e ≠ 0 := fun success =>
  parseResponse_error_ne_ok h ((errorBits_eq_zero_iff e).1 success)

theorem exec_of_parseError {i : Instr} (response : i ∈ [Instr.rspF32, .rspU16]) {s : State} {e : ErrorCode}
    (h : parseResponse s.params s.frame = .error e) : exec i s = .next { s with err := errorBits e, errs := true } := by
  have raised : exec i s = raise e s := by
    fin_cases response
    · simp only [exec, execRspF32, h]
    · simp only [exec, execRspU16, h]
  rw [raised, raise_eq_update (setsErrs_of_parseError h)]

/-- Both commands store the parsed fields; they differ in how much of the value RES takes. -/
theorem exec_of_parsed {i : Instr} (response : i ∈ [Instr.rspF32, .rspU16]) {s : State} {r : Response}
    (h : parseResponse s.params s.frame = .ok r) :
    ∃ t, exec i s = .next t ∧ t.err = 0 ∧ t.rctl = r.ctl ∧ t.raddr = r.addr ∧ t.rseq = r.seq ∧ t.crc = r.crc ∧
      t.res.toNat = if i = .rspF32 then r.value.toNat else r.value.toNat % 2 ^ 16 := by
  fin_cases response
  · exact ⟨_, exec_rspF32_of_parsed h, rfl, rfl, rfl, rfl, rfl, rfl⟩
  · have low : (r.value &&& 0x0000FFFF).toNat = r.value.toNat % 2 ^ 16 := by
      rw [BitVec.toNat_and]
      exact Nat.and_two_pow_sub_one_eq_mod _ 16
    exact ⟨_, exec_rspU16_of_parsed h, rfl, rfl, rfl, rfl, rfl, low⟩

/-- RSP_F32 succeeds only on a line that parses. -/
theorem parsed_of_exec_rspF32 {s t : State} (done : exec .rspF32 s = .next t) (success : t.err = 0) :
    ∃ r, parseResponse s.params s.frame = .ok r := by
  cases parse : parseResponse s.params s.frame with
  | ok r => exact ⟨r, rfl⟩
  | error e =>
    cases (exec_of_parseError (by simp) parse).symm.trans done
    exact absurd success (errorBits_ne_zero_of_parseError parse)

/-- Settles O47: each clause is the first check that fails, and the last one the successful parse, whose numbers fit their
registers. -/
theorem responseChecksInOrder : Obligations.ResponseChecksInOrder := by
  intro i response s n rfl
  have addrSlice : slice s.frame 1 3 = (s.frame.drop 1).take 2 := slice_add s.frame 1 2
  have seqSlice : slice s.frame 3 7 = (s.frame.drop 3).take 4 := slice_add s.frame 3 4
  have valueSlice : slice s.frame 7 15 = (s.frame.drop 7).take 8 := slice_add s.frame 7 8
  have sumSlice : slice s.frame (s.frame.length - 4) s.frame.length = s.frame.drop (s.frame.length - 4) := by
    rw [slice, List.take_length]
  have bodySlice : slice s.frame 0 (s.frame.length - 4) = s.frame.take (s.frame.length - 4) := List.drop_zero
  simp only [← addrSlice, ← seqSlice, ← valueSlice, ← sumSlice, ← bodySlice]
  refine ⟨fun short => ?short, fun header => ?_⟩
  case short => exact exec_of_parseError response (parseResponse_of_short short)
  simp only [ne_eq, head?_eq_some_iff_getD (Nat.zero_lt_of_lt header) 0x21 0]
  refine ⟨fun other => ?otherControl, fun control => ⟨fun noHex => ?noHexHeader, fun a q addr seq =>
    ⟨fun noValue => ?noValue, fun long => ?_⟩⟩⟩
  case otherControl => exact exec_of_parseError response (parseResponse_of_otherControl header other)
  case noHexHeader => exact exec_of_parseError response (parseResponse_of_noHexHeader header control noHex)
  case noValue => exact exec_of_parseError response (parseResponse_of_noValue header control addr seq noValue)
  have tail := parseResponse_of_header long control addr seq
  refine ⟨fun noHex => ?noHexChecksum, fun c field => ⟨fun mismatch => ?mismatch, fun sum =>
    ⟨fun noHex => ?noHexValue, fun v value => ?parsed⟩⟩⟩
  case noHexChecksum => exact exec_of_parseError response (tail.trans (parseTail_of_noHexChecksum _ a q noHex))
  case mismatch => exact exec_of_parseError response (tail.trans (parseTail_of_mismatch _ a q field mismatch))
  case noHexValue => exact exec_of_parseError response (tail.trans (parseTail_of_noHexValue _ a q field sum noHex))
  case parsed =>
    obtain ⟨t, next, success, ctl, addrReg, seqReg, crcReg, res⟩ :=
      exec_of_parsed response (tail.trans (parseTail_of_fields _ a q field sum value))
    have addrFits : a < 2 ^ 8 := unhex_slice_lt (a := 1) (n := 2) addr
    have seqFits : q < 2 ^ 16 := unhex_slice_lt (a := 3) (n := 4) seq
    have valueFits : v < 2 ^ 32 := unhex_slice_lt (a := 7) (n := 8) value
    have sumFits : c < 2 ^ 16 := sum ▸ BitVec.isLt _
    refine ⟨t, next, success, ctl, ?_, ?_, ?_, ?_⟩
    · rw [addrReg, BitVec.toNat_ofNat, Nat.mod_eq_of_lt addrFits]
    · rw [seqReg, BitVec.toNat_ofNat, Nat.mod_eq_of_lt seqFits]
    · rw [crcReg, BitVec.toNat_ofNat, Nat.mod_eq_of_lt sumFits]
    · rw [res, BitVec.toNat_ofNat, Nat.mod_eq_of_lt valueFits]

theorem high_ne_zero_iff (v : Word) : v >>> 16 ≠ 0 ↔ 2 ^ 16 ≤ v.toNat := by
  rw [ne_eq, BitVec.toNat_eq, BitVec.toNat_ushiftRight, Nat.shiftRight_eq_div_pow]
  simp

/-- Settles O49: both commands make of one parse the same state, but for RES and NARROW when it succeeds. -/
theorem rspU16NarrowsRspF32 : Obligations.RspU16NarrowsRspF32 := by
  intro s t done
  cases parse : parseResponse s.params s.frame with
  | error e =>
    cases (exec_of_parseError (by simp) parse).symm.trans done
    exact ⟨fun _ => exec_of_parseError (by simp) parse,
      fun success => absurd success (errorBits_ne_zero_of_parseError parse)⟩
  | ok r =>
    cases (exec_rspF32_of_parsed parse).symm.trans done
    refine ⟨fun failure => absurd rfl failure, fun _ => ?_⟩
    rw [exec_rspU16_of_parsed parse]
    simp only [high_ne_zero_iff]

/-! ### A changed byte (R193) -/

/-- A line that parses ends in the checksum of what stands before it. -/
theorem checksum_of_parseResponse_ok {p : Params} {body field : List Byte} {r : Response} (width : field.length = 4)
    (h : parseResponse p (body ++ field) = .ok r) : unhex p.hexLowerOk field = some (crc16 body).toNat := by
  obtain ⟨-, -, a, q, -, -, tail⟩ := parseResponse_ok h
  obtain ⟨c, -, parsed, rfl, -, -⟩ := parseTail_ok tail
  have bodyEnd : (body ++ field).length - 4 = body.length := by
    rw [List.length_append, width, Nat.add_sub_cancel]
  rwa [bodyEnd, slice, List.take_length, List.drop_left, slice, List.drop_zero, List.take_left] at parsed

/-- The checksum field that fits a line fits no line with one other byte before it. -/
theorem exists_parseError_of_changed {p : Params} {before after : List Byte} {x y : Byte} {r : Response}
    (parsed : parseResponse p (before ++ x :: after) = .ok r) (inBody : 4 ≤ after.length) (changed : x ≠ y) :
    ∃ e, parseResponse p (before ++ y :: after) = .error e := by
  obtain ⟨rest, field, rfl, width⟩ : ∃ rest field, after = rest ++ field ∧ field.length = 4 :=
    ⟨after.take (after.length - 4), after.drop (after.length - 4), (List.take_append_drop ..).symm, by
      rw [List.length_drop]; omega⟩
  have split (b : Byte) : before ++ b :: (rest ++ field) = (before ++ b :: rest) ++ field := by simp
  rw [split] at parsed ⊢
  cases other : parseResponse p ((before ++ y :: rest) ++ field) with
  | error e => exact ⟨e, rfl⟩
  | ok r' =>
    have same := (checksum_of_parseResponse_ok width parsed).symm.trans (checksum_of_parseResponse_ok width other)
    exact absurd (BitVec.eq_of_toNat_eq (Option.some.inj same)) (oneByteChangesTheChecksum before rest x y changed)

/-- Settles O50: the changed line no longer parses, so the command ends in the parser's error and keeps RES. -/
theorem corruptedResponseIsRejected : Obligations.CorruptedResponseIsRejected := by
  intro s t before after x y done success line inBody changed
  obtain ⟨r, parsed⟩ := parsed_of_exec_rspF32 done success
  obtain ⟨e, failed⟩ := exists_parseError_of_changed (line ▸ parsed) inBody changed
  have isError : isErrorCode (errorBits e) = true := (isErrorCode_errorBits e).trans (setsErrs_of_parseError failed)
  exact ⟨_, exec_of_parseError (s := { s with frame := before ++ y :: after }) (by simp) failed, isError, rfl⟩

end Sys2Proof.Machine
end

section
/-! PROOF. The host's accesses as instructions: what a step performs, the register writes, and runs of defined events
(45_control.md R211 to R216). -/

namespace Sys2Proof.Machine

/-! ### The step of an instruction's access (R211, R216) -/

theorem step_of_run {s : State} {a : Access} {rest : List HostEvent} {i : Instr} (hp : s.pending = .access a :: rest)
    (h : decodeAccess s.params.base a = .ok (.run i)) : step s = exec i (s.withPending rest) := by
  simp only [step, fetch, hp, fetchAccess, State.withPending_params, h]

/-- Settles O5: CMD stands at the base address, and a CMD write of a legal word is the word's command. -/
theorem stepRunsTheDecodedInstruction : Obligations.StepRunsTheDecodedInstruction := by
  refine ⟨fun s a rest i hp h => step_of_run hp h, fun s w rest i hp h => ?command⟩
  case command =>
    calc step s
      _ = exec (.busCmdWrite w) (s.withPending rest) := step_of_run hp (decodeAccess_cmdWrite s.params.base w)
      _ = exec i (s.withPending rest) := exec_busCmdWrite_of_ok h _

/-! ### The register writes (R212, R213) -/

theorem exec_busOperandWrite (r : OperandReg) (v : Word) (s : State) :
    exec (.busOperandWrite r v) s = .next (s.withOperand r v) := rfl

/-- Settles O51: each of the six registers is one update of the state, at its own offset. -/
theorem operandWriteStores : Obligations.OperandWriteStores := by
  refine ⟨fun s v => ?store, fun base v => ?offset⟩
  case store =>
    exact ⟨exec_busOperandWrite .opa v s, exec_busOperandWrite .addr v s, exec_busOperandWrite .seq v s,
      exec_busOperandWrite .param v s, exec_busOperandWrite .inst v s, exec_busOperandWrite .value v s⟩
  case offset =>
    have atOffset (r : OperandReg) := decodeAccess_operandWrite base r v
    simp only [List.forall_mem_cons]
    exact ⟨atOffset .opa, atOffset .addr, atOffset .seq, atOffset .param, atOffset .inst, atOffset .value, nofun⟩

/-- Settles O52: ERRS is kept exactly when bit 4 is clear. -/
theorem statusWriteClearsErrs : Obligations.StatusWriteClearsErrs := by
  obtain ⟨-, -, noEffect⟩ := unmappedAndReadOnlyAccesses
  refine ⟨fun s v set => ?clears, noEffect, fun base v => decodeAccess_write base (by decide) rfl v⟩
  case clears =>
    exact (execBusStatusWrite_eq v s).trans (by rw [set, Bool.not_true, Bool.and_false]; rfl)

/-! ### Every defined event has a step (R216) -/

theorem wellFormed_busRead_iff (off : Nat) : (Instr.busRead off).wellFormed = true ↔ off < 0x1000 ∧ off % 4 = 0 := by
  simp only [Instr.wellFormed, offsetOk, Bool.and_eq_true, decide_eq_true_eq]

/-- Only a bus read can stop, and only when its offset is ill-formed (log 15). -/
theorem exists_exec_eq_next {i : Instr} (wf : i.wellFormed = true) (s : State) : ∃ t, exec i s = .next t := by
  obtain ⟨commands, cmdWrites⟩ := everyCommandCompletes
  cases i with
  | busCmdWrite w => exact cmdWrites w s
  | busOperandWrite r v => exact ⟨_, exec_busOperandWrite r v s⟩
  | busStatusWrite v => exact ⟨_, execBusStatusWrite_eq v s⟩
  | busRead off =>
    obtain ⟨inside, aligned⟩ := (wellFormed_busRead_iff off).1 wf
    exact ⟨_, exec_busRead inside aligned s⟩
  | busRxdataWrite w => exact ⟨_, rfl⟩
  | _ => exact commands _ s rfl

/-- What a write asks for has no offset left to check (R51, R52). -/
theorem wellFormed_of_writeStep {target : Target} {v : Word} {i : Instr} (h : writeStep target v = .run i) :
    i.wellFormed = true := by
  cases target with
  | cmd | status | operand | rxdata =>
    cases h
    rfl
  | _ => cases h

/-- The checks of an access are those of well-formedness (R50, R51). -/
theorem wellFormed_of_decodeAccess {base : Nat} {a : Access} {i : Instr} (h : decodeAccess base a = .ok (.run i)) :
    i.wellFormed = true := by
  cases a with
  | read addr width =>
    cases checked : checkAccess base addr width with
    | error e => cases (decodeAccess_eq_error (.inl rfl) checked).symm.trans h
    | ok off =>
      obtain ⟨above, below, -, rfl, aligned⟩ := (checkAccess_ok_iff base addr width off).1 checked
      simp only [decodeAccess, checked] at h
      cases h
      exact (wellFormed_busRead_iff _).2 ⟨Nat.sub_lt_left_of_lt_add above below, aligned⟩
  | write addr width v =>
    cases checked : checkAccess base addr width with
    | error e => cases (decodeAccess_eq_error (.inr ⟨v, rfl⟩) checked).symm.trans h
    | ok off =>
      simp only [decodeAccess, checked, Except.ok.injEq] at h
      exact wellFormed_of_writeStep h

/-- An event the block answers: a reset, or an access that decodes. -/
def IsDefined (base : Nat) (e : HostEvent) : Prop := e = .reset ∨ ∃ a b, e = .access a ∧ decodeAccess base a = .ok b

/-- The step of a defined event takes that event and leaves the others and the parameters. -/
theorem exists_step_of_isDefined {s : State} {e : HostEvent} {rest : List HostEvent} (hp : s.pending = e :: rest)
    (defined : IsDefined s.params.base e) : ∃ t, step s = .next t ∧ t.pending = rest ∧ t.params = s.params := by
  rcases defined with rfl | ⟨a, b, rfl, decoded⟩
  · exact ⟨_, step_of_reset hp, rfl, rfl⟩
  · cases b with
    | noEffect => exact ⟨_, step_of_noEffect hp decoded, rfl, rfl⟩
    | run i =>
      obtain ⟨t, done⟩ := exists_exec_eq_next (wellFormed_of_decodeAccess decoded) (s.withPending rest)
      obtain ⟨⟨params, pending⟩, -⟩ := operandRegistersWrittenOnlyByTheHost i (s.withPending rest) t done
      exact ⟨t, (step_of_run hp decoded).trans done, pending, params⟩

/-! ### Runs of defined events (R216, 70_reset_and_hazards.md R264) -/

theorem run_succ_of_step {s t : State} (h : step s = .next t) (n : Nat) :
    Host.Core.run core (n + 1) s = Host.Core.run core n t := by
  have first : core.step s = .next t := h
  simp only [Host.Core.run, first]

theorem exists_run_of_isDefined {es : List HostEvent} {s : State} (hp : s.pending = es)
    (defined : ∀ e ∈ es, IsDefined s.params.base e) :
    ∃ t : State, Host.Core.run core es.length s = .next t ∧ t.pending = [] ∧ t.params = s.params := by
  induction es generalizing s with
  | nil => exact ⟨s, rfl, hp, rfl⟩
  | cons e rest ih =>
    obtain ⟨first, others⟩ := List.forall_mem_cons.1 defined
    obtain ⟨u, stepped, pending, params⟩ := exists_step_of_isDefined hp first
    obtain ⟨t, ran, idle, kept⟩ := ih pending (params ▸ others)
    exact ⟨t, (run_succ_of_step stepped rest.length).trans ran, idle, kept.trans params⟩

/-- Settles O8, by induction on the waiting events: each step takes one of them and no parameter changes. -/
theorem definedAccessesRunToTheEnd : Obligations.DefinedAccessesRunToTheEnd :=
  fun _ defined => exists_run_of_isDefined rfl defined

end Sys2Proof.Machine
end

section
/-! PROOF. How commands end: which codes each can end with, what an error leaves unchanged, and that the old ERR and ERRS do
not matter (60_exceptions.md R230 to R234, R239). -/

namespace Sys2Proof.Machine

/-! ### The code a command ends with, and the old ERR and ERRS -/

/-- A state with another ERR and ERRS. -/
def State.withError (s : State) (e : BitVec 4) (b : Bool) : State := { s with err := e, errs := b }

@[simp] theorem State.withError_params (s : State) (e : BitVec 4) (b : Bool) : (s.withError e b).params = s.params := rfl
@[simp] theorem State.withError_tx (s : State) (e : BitVec 4) (b : Bool) : (s.withError e b).tx = s.tx := rfl
@[simp] theorem State.withError_rx (s : State) (e : BitVec 4) (b : Bool) : (s.withError e b).rx = s.rx := rfl
@[simp] theorem State.withError_frame (s : State) (e : BitVec 4) (b : Bool) : (s.withError e b).frame = s.frame := rfl
@[simp] theorem State.withError_closed (s : State) (e : BitVec 4) (b : Bool) : (s.withError e b).closed = s.closed := rfl

/-- The column "raised by" of the table of R230, for the codes a command can fail with. A decoded command never fails with
IllegalCommand (R235). -/
def RaisedBy (i : Instr) : ErrorCode → Prop
  | .ok | .illegalCommand => False
  | .encodingError => i ∈ [Instr.encU8, .encU16, .crcByte, .asmVr, .asmVs]
  | .malformedField =>
    (∃ n, i = .crcFrm n ∨ i = .decU8 n ∨ i = .decU16 n ∨ i = .decF32 n) ∨ i = .rspF32 ∨ i = .rspU16
  | .unknownCommand => ∃ n, i = .decTok n
  | .unexpectedResponseValue | .checksumMismatch => i = .rspF32 ∨ i = .rspU16
  | .timeout => i = .rxTimeout
  | .connectionClosed | .wouldBlock => i = .rxPop
  | .txOverflow =>
    (∃ c, i = .txCtl c) ∨ (∃ k, i = .encTok k) ∨ i ∈ [Instr.encU8, .encU16, .encF32, .encCrc, .encTerm]

/-- `EndsAlike p e b o o'`: a command with outcome `o` has outcome `o'` when ERR and ERRS were `e` and `b` before it. Both
end with one code, success or one that meets `p`, written over states that agree but for ERR and ERRS. -/
def EndsAlike (p : ErrorCode → Prop) (e : BitVec 4) (b : Bool) (o o' : Result) : Prop :=
  ∃ (u : State) (c : ErrorCode), (c = .ok ∨ p c) ∧ o = .next (u.endWith c) ∧ o' = .next ((u.withError e b).endWith c)

section
variable {p : ErrorCode → Prop} {s : State} {e : BitVec 4} {b : Bool}

theorem EndsAlike.of_ok (u : State) : EndsAlike p e b (commandOk u) (commandOk (u.withError e b)) :=
  ⟨u, .ok, .inl rfl, rfl, rfl⟩

theorem EndsAlike.of_raise {c : ErrorCode} (may : p c) (u : State) :
    EndsAlike p e b (raise c u) (raise c (u.withError e b)) :=
  ⟨u, c, .inr may, rfl, rfl⟩

/-- A check of the operands before the rest of a command. -/
theorem EndsAlike.of_guard {q : Prop} [Decidable q] {c : ErrorCode} {o o' : Result} (may : p c)
    (rest : EndsAlike p e b o o') :
    EndsAlike p e b (if q then raise c s else o) (if q then raise c (s.withError e b) else o') := by
  split
  · exact .of_raise may s
  · exact rest

theorem appendCommand_endsAlike (may : p .txOverflow) (bs : List Byte) :
    EndsAlike p e b (appendCommand bs s) (appendCommand bs (s.withError e b)) := by
  unfold appendCommand txAppend
  rw [State.withError_params, State.withError_tx]
  split
  · exact .of_raise may s
  · exact .of_ok (s.withTx _)

theorem decodeField_endsAlike (may : p .malformedField) (off : Byte) (w : Nat) :
    EndsAlike p e b (decodeField off w s) (decodeField off w (s.withError e b)) := by
  unfold decodeField
  rw [State.withError_params, State.withError_frame]
  split
  · exact .of_raise may s
  · exact .of_ok (s.withRes _)

theorem assemble_endsAlike (may : p .encodingError) (body : List Byte) :
    EndsAlike p e b (assemble body s) (assemble body (s.withError e b)) := by
  have sameRange : rangeOk (s.withError e b) = rangeOk s := rfl
  unfold assemble
  rw [sameRange]
  split
  · exact .of_ok ((s.withTx _).withCrc _)
  · exact .of_raise may s

theorem execEncCrc_endsAlike : EndsAlike (RaisedBy .encCrc) e b (execEncCrc s) (execEncCrc (s.withError e b)) := by
  rw [execEncCrc_eq, execEncCrc_eq]
  exact .of_guard (by simp [RaisedBy]) (.of_ok ((s.withTx _).withCrc _))

theorem execDecTok_endsAlike (off : Byte) :
    EndsAlike (RaisedBy (.decTok off)) e b (execDecTok off s) (execDecTok off (s.withError e b)) := by
  unfold execDecTok
  rw [State.withError_frame]
  split
  · exact .of_ok (s.withRes _)
  · exact .of_raise ⟨off, rfl⟩ s

theorem execRxPop_endsAlike : EndsAlike (RaisedBy .rxPop) e b (execRxPop s) (execRxPop (s.withError e b)) := by
  unfold execRxPop
  rw [State.withError_rx, State.withError_closed]
  split
  · exact .of_ok (s.withPopped _ _)
  · exact .of_guard (by simp [RaisedBy]) (.of_raise (by simp [RaisedBy]) s)

/-- The codes of a failed parse are codes of the response commands (44_response.md R191). -/
theorem raisedBy_of_parseError {i : Instr} (response : i = .rspF32 ∨ i = .rspU16) {params : Params} {frame : List Byte}
    {c : ErrorCode} (h : parseResponse params frame = .error c) : RaisedBy i c := by
  rcases parseResponse_error h with rfl | rfl | rfl
  · exact .inr response
  · exact response
  · exact response

theorem execRspF32_endsAlike : EndsAlike (RaisedBy .rspF32) e b (execRspF32 s) (execRspF32 (s.withError e b)) := by
  unfold execRspF32
  rw [State.withError_params, State.withError_frame]
  split
  next parsed => exact .of_raise (raisedBy_of_parseError (.inl rfl) parsed) s
  next r _ => exact .of_ok ((storeHeader r s).withRes _)

theorem execRspU16_endsAlike : EndsAlike (RaisedBy .rspU16) e b (execRspU16 s) (execRspU16 (s.withError e b)) := by
  unfold execRspU16
  rw [State.withError_params, State.withError_frame]
  split
  next parsed => exact .of_raise (raisedBy_of_parseError (.inr rfl) parsed) s
  next r _ => exact .of_ok (((storeHeader r s).withRes _).withNarrow _)

/-- Every command fails only with a code of its rows of R230, and no command reads the old ERR or ERRS. -/
theorem exec_endsAlike {i : Instr} (command : isCommand i = true) :
    EndsAlike (RaisedBy i) e b (exec i s) (exec i (s.withError e b)) := by
  cases i with
  | nop => exact .of_ok s
  | crcClr | crcTx => exact .of_ok (s.withCrc _)
  | crcByte | crcFrm _ => exact .of_guard (by simp [RaisedBy]) (.of_ok (s.withCrc _))
  | txClr => exact .of_ok (s.withTx [])
  | txCtl _ | encF32 | encTok _ | encTerm => exact appendCommand_endsAlike (by simp [RaisedBy]) _
  | encU8 | encU16 => exact .of_guard (by simp [RaisedBy]) (appendCommand_endsAlike (by simp [RaisedBy]) _)
  | encCrc => exact execEncCrc_endsAlike
  | asmVr | asmVs => exact assemble_endsAlike (by simp [RaisedBy]) _
  | rxPop => exact execRxPop_endsAlike
  | rxFlush => exact .of_ok ((s.withRx []).withRxovf false)
  | rxClose => exact .of_ok (s.withClosed true)
  | rxOpen => exact .of_ok (s.withClosed false)
  | rxTimeout => exact .of_raise (by simp [RaisedBy]) (s.withRx [])
  | decU8 off | decU16 off | decF32 off => exact decodeField_endsAlike (by simp [RaisedBy]) off _
  | decTok off => exact execDecTok_endsAlike off
  | rspF32 => exact execRspF32_endsAlike
  | rspU16 => exact execRspU16_endsAlike
  | busCmdWrite _ | busOperandWrite _ _ | busStatusWrite _ | busRead _ | busRxdataWrite _ => cases command

/-- From a known next state: ERR does not depend on the old values, and ERRS is the old value or the code's. -/
theorem EndsAlike.eq_next {t : State} {o' : Result} (h : EndsAlike p e b (.next t) o') :
    o' = .next { t with errs := b || isErrorCode t.err } := by
  obtain ⟨u, c, -, same, rfl⟩ := h
  cases same
  rw [State.endWith_err, isErrorCode_errorBits, Bool.or_comm]
  rfl

end

/-! ### What a CMD write performs -/

/-- What ends as a command does performs a command, or is a write of an illegal word (45_control.md R211, R235). -/
theorem endsACommand_cases {i : Instr} (hi : endsACommand i = true) :
    (∃ j, performed i = some j ∧ isCommand j = true) ∨
    (performed i = none ∧ ∀ s, exec i s = raise .illegalCommand s) := by
  cases i with
  | busCmdWrite w =>
    cases decoded : decodeCommand w with
    | ok j =>
      have command := isCommand_of_encodeCommand (encodeCommand_of_decodeCommand decoded)
      exact .inl ⟨j, by simp only [performed, decoded], command⟩
    | error _ =>
      exact .inr ⟨by simp only [performed, decoded], exec_busCmdWrite_of_error decoded⟩
  | busOperandWrite _ _ | busStatusWrite _ | busRead _ | busRxdataWrite _ => cases hi
  | _ => exact .inl ⟨_, rfl, rfl⟩

/-- Settles O13: a performed command ends alike from both states, and so does an illegal word. -/
theorem oldErrorDoesNotMatter : Obligations.OldErrorDoesNotMatter := by
  intro i s t e b hi done
  have alike : ∃ p, EndsAlike p e b (exec i s) (exec i (s.withError e b)) := by
    rcases endsACommand_cases hi with ⟨j, hp, command⟩ | ⟨-, illegal⟩
    · rw [exec_of_performed hp, exec_of_performed hp]
      exact ⟨_, exec_endsAlike command⟩
    · rw [illegal, illegal]
      exact ⟨fun _ => True, .of_raise trivial s⟩
  obtain ⟨p, alike⟩ := alike
  rw [done] at alike
  exact alike.eq_next

/-! ### Errors (R230, R233) -/

/-- Settles O14: of the ends of a command, a success has no error code, and only RX_TIMEOUT's error changes more. -/
theorem failedCommandChangesNothing : Obligations.FailedCommandChangesNothing := by
  intro i s t hi done isError
  have ends := commandEnd_of_exec hi done
  generalize performed i = p at ends
  cases ends with
  | ok => exact absurd isError nofun
  | @failed j c hj _ =>
    have notTimeout := ne_of_hasCheck hj (k := .rxTimeout) rfl
    have sticky : setsErrs c = true := (isErrorCode_errorBits c).symm.trans isError
    refine ⟨fun _ => ?_, fun timedOut => absurd (Option.some.inj timedOut) notTimeout⟩
    rw [State.endWith, sticky, Bool.true_or]
  | timedOut => exact ⟨fun no => absurd rfl no, fun _ => rfl⟩
  | illegal => exact ⟨fun _ => rfl, nofun⟩

/-- The code in ERR after a command is one that its rows of R230 list. -/
theorem raisedBy_of_exec {i : Instr} {s t : State} (command : isCommand i = true) (done : exec i s = .next t)
    {c : ErrorCode} (failed : c ≠ .ok) (code : t.err = errorBits c) : RaisedBy i c := by
  obtain ⟨u, d, may, o, -⟩ := exec_endsAlike (s := s) (e := 0) (b := false) command
  cases done.symm.trans o
  obtain rfl : d = c := errorBits_injective code
  exact may.resolve_left failed

/-- Settles O16: the table `RaisedBy`, code by code; RX_TIMEOUT ends with Timeout from every state. -/
theorem errorCodesByCommand : Obligations.ErrorCodesByCommand := by
  intro i s t command done
  have raised {c : ErrorCode} (failed : c ≠ .ok) (code : t.err = errorBits c) : RaisedBy i c :=
    raisedBy_of_exec command done failed code
  have timeout : t.err = 5 ↔ i = .rxTimeout := by
    refine ⟨raised (c := .timeout) nofun, ?_⟩
    rintro rfl
    cases done
    rfl
  exact ⟨raised (c := .encodingError) nofun, raised (c := .malformedField) nofun, raised (c := .unknownCommand) nofun,
    raised (c := .unexpectedResponseValue) nofun, timeout, raised (c := .connectionClosed) nofun,
    raised (c := .checksumMismatch) nofun, raised (c := .illegalCommand) nofun, raised (c := .txOverflow) nofun,
    raised (c := .wouldBlock) nofun⟩

/-! ### WouldBlock (R234) -/

/-- Settles O15: an illegal word has another code, only RX_POP raises this one, and a failed check leaves the rest. -/
theorem wouldBlockChangesOnlyErr : Obligations.WouldBlockChangesOnlyErr := by
  intro i s t hi done code
  rcases endsACommand_cases hi with ⟨j, hp, command⟩ | ⟨-, illegal⟩
  · rw [exec_of_performed hp] at done
    obtain rfl : j = .rxPop := raisedBy_of_exec (c := .wouldBlock) command done nofun code
    refine ⟨hp, ?_⟩
    cases commandEnd_of_exec rfl done with
    | ok => exact absurd code nofun
    | @failed _ c _ _ =>
      obtain rfl : c = .wouldBlock := errorBits_injective code
      rfl
  · cases done.symm.trans (illegal s)
    exact absurd code nofun

end Sys2Proof.Machine
end

section
/-! PROOF. The reset input, what it leaves alone, and the clean-up without it (70_reset_and_hazards.md R260 to R262). -/

namespace Sys2Proof.Machine

/-! ### The parameters (R261) -/

theorem params_of_exec {i : Instr} {s t : State} (done : exec i s = .next t) : t.params = s.params := by
  obtain ⟨⟨kept, -⟩, -⟩ := operandRegistersWrittenOnlyByTheHost i s t done
  exact kept

/-- Settles O59: the reset input keeps the parameters, and so does every instruction. -/
theorem parametersNeverChange : Obligations.ParametersNeverChange := by
  intro s t stepped
  rcases step_eq_next_cases stepped with ⟨rest, -, rfl⟩ | ⟨-, rest, i, -, -, done⟩ | ⟨-, rest, -, -, rfl⟩
  · rfl
  · exact (params_of_exec done).trans (s.withPending_params rest)
  · rfl

/-! ### The reset state (R260) -/

/-- Settles O9: the default parameters are legal, the buffers are empty, and every decoded field is 0. -/
theorem resetMeetsTheBlockBounds : Obligations.ResetMeetsTheBlockBounds := by
  have legal : Params.default.legal = true := by decide
  have frameFits : 0 + 1 ≤ Params.default.rxCap := by decide
  exact ⟨legal, Nat.zero_le _, Nat.zero_le _, frameFits, nofun, nofun, Nat.zero_le _,
    fun _ => ⟨rfl, rfl, rfl, rfl, rfl, rfl⟩, fun _ => .inl rfl⟩

/-- The empty RX is not full, as a legal RX_CAP is not 0 (00_scope.md R7, 10_state.md R46). -/
theorem rxfull_resetBlock {s : State} (legal : s.params.legal = true) : rxfull (resetBlock s) = false := by
  obtain ⟨⟨hrx, -⟩, -⟩ := (params_legal_iff _).1 legal
  have notZero : 0 ≠ s.params.rxCap := by omega
  exact beq_false_of_ne notZero

/-- RXFULL is the one bit of STATUS that depends on a parameter (10_state.md R38, R46). -/
theorem statusWord_resetBlock {s : State} (legal : s.params.legal = true) : statusWord (resetBlock s) = 0 := by
  calc statusWord (resetBlock s)
    _ = statusWord State.reset := by
      rw [statusWord, rxfull_resetBlock legal]
      rfl
    _ = 0 := by decide

/-- Settles O58: the step is `resetBlock`, which gives each field its reset value and keeps the parameters. -/
theorem resetValues : Obligations.ResetValues := by
  refine ⟨fun s rest hp => step_of_reset hp, fun s hp legal => ?status, fun s hp defaults unread => ?resetState⟩
  case status =>
    have read := exec_busRead (off := 0x004) (by decide) rfl (resetBlock (s.withPending []))
    exact ⟨_, _, step_of_reset hp, read, congrArg some (statusWord_resetBlock legal)⟩
  case resetState =>
    calc step s
      _ = .next (resetBlock (s.withPending [])) := step_of_reset hp
      _ = .next { State.reset with params := s.params, readData := s.readData } := rfl
      _ = .next State.reset := by rw [defaults, unread]; rfl

/-! ### The clean-up without reset (R262) -/

/-- Settles O60: each command of the sequence writes its part and a success; the STATUS write then clears ERRS. -/
theorem cleanUpWithoutReset : Obligations.CleanUpWithoutReset := by
  obtain ⟨-, ⟨-, crcClr⟩, ⟨-, txClr⟩, ⟨-, rxFlush⟩, -, ⟨-, rxOpen⟩, -⟩ := unconditionalCommands
  obtain ⟨clearErrs, -⟩ := statusWriteClearsErrs
  intro s
  rw [runInstrs_cons_of_next (rxFlush _), runInstrs_cons_of_next (rxOpen _), runInstrs_cons_of_next (txClr _),
    runInstrs_cons_of_next (crcClr _), runInstrs_cons_of_next (clearErrs _ _ (by decide)), runInstrs]

end Sys2Proof.Machine
end
